-- ==== Sys2Proof/Config.lean ====
section
/-! DEFINITION. The constants of 00_scope.md R10 and the seven parameters of R12. -/

namespace Sys2Proof.Config

/-- `L` of R10: the longest Huffman code. -/
def maxCodeLen : Nat := 15

/-- `F_MAIN` of R10. -/
def fastMain : Nat := 10

/-- `F_DIST` of R10. -/
def fastDist : Nat := 7

/-- `F_LEN` of R10. -/
def fastLen : Nat := 7

/-- `F_ALIGN` of R10. -/
def fastAlign : Nat := 6

/-- The level decoder's fast-table width: the spec gives none and needs none (R46, R170), so it has no fast table. -/
def fastLevel : Nat := 0

/-- `DIST_SIZE_V6` of R10. -/
def distSizeV6 : Nat := 64

/-- `DIST_SIZE_V7` of R10. -/
def distSizeV7 : Nat := 80

/-- `ALIGN_SIZE` of R10. -/
def alignSize : Nat := 16

/-- `LEN_SIZE` of R10. -/
def lenSize : Nat := 44

/-- `LEVEL_SIZE` of R10. -/
def levelSize : Nat := 20

/-- `MAX_MATCH_LEN` of R10. -/
def maxMatchLen : Nat := 0x1004

/-- `WINDOW_MIN` of R10. -/
def windowMin : Nat := 2 ^ 18

/-- `WRITE_STEP` of R10. -/
def writeStep : Nat := 2 ^ 18

/-- `LOOK_AHEAD_SIZE` of R10, in bytes. -/
def lookAheadSize : Nat := 16

/-- `INPUT_BUFSIZE` of R10, in bytes, without the look-ahead. It is the size of `buf` (R30), which no rule outside the bit
reader reads (R31); how the input is buffered is not in State (log 3). -/
def inputBufSize : Nat := 2 ^ 20

/-- `FILTER_QUEUE_MAX` of R10. -/
def filterQueueMax : Nat := 8192

/-- `FILTER_SIZE_MAX` of R10. -/
def filterSizeMax : Nat := 2 ^ 22

/-- `FILTER_CHANNELS_MAX` of R10. -/
def filterChannelsMax : Nat := 32

/-- `SOLID_RECOVER_LIMIT` of R10. -/
def solidRecoverLimit : Nat := 2 ^ 20

/-- `BLOCK_CHECKSUM` of R10. -/
def blockChecksum : BitVec 8 := 0x5A

/-- `REP_SENTINEL` of R10. -/
def repSentinel : BitVec 32 := 0xFFFFFFFF

/-- `DIST_SENTINEL` of R10: 2^32 - 2. -/
def distSentinel : Nat := 0xFFFFFFFE

/-- `E8_FILE_SIZE` of R10. -/
def e8FileSize : Nat := 2 ^ 24

/-- The seven parameters of R12 that a model takes as arguments of its top-level definitions. UNVERIFIED (log 14): the defaults
are the spec's own, and the spec says which of them its source does not print. -/
structure Params where
  /-- `MAIN_SIZE` -/
  mainSize : Nat
  /-- `LEVEL_REP_BASE[16..19]` -/
  levelRepBase : List Nat
  /-- `LEVEL_REP_BITS[16..19]` -/
  levelRepBits : List Nat
  /-- `BLOCK_END_BIAS` -/
  blockEndBias : Nat
  /-- `LEN_PLUS[0..39]` -/
  lenPlus : List Nat
  /-- `FILTER_TYPE_CODE` of DELTA -/
  typeDelta : Nat
  /-- `FILTER_TYPE_CODE` of E8 -/
  typeE8 : Nat
  /-- `FILTER_TYPE_CODE` of E8E9 -/
  typeE8E9 : Nat
  /-- `FILTER_TYPE_CODE` of ARM -/
  typeArm : Nat
  /-- `EOF_UNDEFINED_SIZE_RESULT` is `Ok` -/
  eofUndefinedOk : Bool
deriving DecidableEq, Repr

/-- Parameters a machine can be built with: every default and every alternative that R12 records meets this. The alphabet has a row
for each main symbol, a read takes no more than 25 bits (R146), a match is no longer than MAX_MATCH_LEN (R232), and the four
codes are different values of the 3-bit field (R115). DESIGN CHOICE (log 14): the spec bounds none of them. -/
def Params.wf (P : Params) : Bool :=
  decide (P.mainSize ≤ 312) &&
    decide (P.levelRepBase.length = 4) && decide (P.levelRepBits.length = 4) && P.levelRepBits.all (fun b => decide (b ≤ 25)) &&
    decide (P.blockEndBias ≤ 1) &&
    decide (P.lenPlus.length = 40) && P.lenPlus.all (fun a => decide (a ≤ 3)) &&
    decide [P.typeDelta, P.typeE8, P.typeE8E9, P.typeArm].Nodup &&
    [P.typeDelta, P.typeE8, P.typeE8E9, P.typeArm].all fun c => decide (c < 8)

/-- The defaults of R12. -/
def params : Params where
  mainSize := 312
  levelRepBase := [3, 7, 3, 7]
  levelRepBits := [3, 7, 3, 7]
  blockEndBias := 1
  lenPlus := List.replicate 7 0 ++ List.replicate 5 1 ++ List.replicate 5 2 ++ List.replicate 23 3
  typeDelta := 0
  typeE8 := 1
  typeE8E9 := 2
  typeArm := 3
  eofUndefinedOk := true

end Sys2Proof.Config
end

