-- ==== Sys2Proof/Word.lean ====
section
/-! DEFINITION. The word types of 00_scope.md R13 and their plainest arithmetic. -/

namespace Sys2Proof

/-- Window, filter and input bytes are 8-bit (R13). -/
abbrev Byte := BitVec 8

/-- Distances, repetition registers and the filters' words are 32-bit unsigned (R13). -/
abbrev Word32 := BitVec 32

end Sys2Proof
end

