-- ==== Sys2Proof/Machine/Bits.lean ====
section
/-! DEFINITION. Bit fields and byte order: the bit string of the stream (R15, R78) and little-endian quantities (R79). -/

namespace Sys2Proof

/-- The `n` low bits of `v`, most significant first (R15). -/
def toBits : Nat → Nat → List Bool
  | 0, _ => []
  | n + 1, v => v.testBit n :: toBits n v

/-- `n` more bits of a stream taken after the value `acc`, most significant first.
A stream that has ended goes on in ones (R71). -/
def takeBits : Nat → Nat → List Bool → Nat
  | 0, acc, _ => acc
  | n + 1, acc, [] => takeBits n (2 * acc + 1) []
  | n + 1, acc, b :: bs => takeBits n (2 * acc + b.toNat) bs

/-- The next `n` bits of a stream as an unsigned integer, first bit most significant (R143, R147). -/
def bitsValue (n : Nat) (bs : List Bool) : Nat := takeBits n 0 bs

/-- The little-endian value of a list of bytes, first byte least significant (R79, R104, R116). -/
def leValue : List Byte → Nat
  | [] => 0
  | b :: bs => b.toNat + 256 * leValue bs

/-- `read_le_u32` of R16 on four bytes. -/
def readLe32 (b0 b1 b2 b3 : Byte) : Word32 := BitVec.ofNat 32 (leValue [b0, b1, b2, b3])

/-- `write_le_u32` of R16: the four bytes of a word, least significant first. -/
def writeLe32 (v : Word32) : List Byte :=
  [v.extractLsb' 0 8, v.extractLsb' 8 8, v.extractLsb' 16 8, v.extractLsb' 24 8]

/-- Exclusive or of a list of bytes: the header checksum of R104. -/
def xorBytes : List Byte → Byte
  | [] => 0
  | b :: bs => b ^^^ xorBytes bs

/-- The bytes of a bit string, most significant bit first, the last one filled up with zeros. -/
def packBits (bits : List Bool) : List Byte :=
  (List.range ((bits.length + 7) / 8)).map fun i =>
    BitVec.ofNat 8 (bitsValue 8 ((bits ++ List.replicate 8 false).drop (8 * i)))

end Sys2Proof
end

