-- ==== Sys2Proof/Machine/Huffman.lean ====
section
/-! DEFINITION. The canonical Huffman unit: its record (10_state.md R45), `build` and `decode` (41_huffman.md). -/

namespace Sys2Proof

/-- One decoder instance (R45). Lists that the spec indexes from 1 hold index 1 first. -/
structure Huff where
  /-- code length per symbol, 0 for an absent one -/
  lens : List Nat
  /-- `count[1..15]` -/
  count : List Nat
  /-- `start[1..16]`, the threshold table -/
  start : List Nat
  /-- `off[1..16]`, the symbol-offset table -/
  off : List Nat
  /-- the symbol index array -/
  syms : List Nat
  /-- the fast table (R56, R176): symbol and length, or "longer than F" -/
  fast : List (Option (Nat × Nat))
  /-- no symbol has a length -/
  empty : Bool
deriving DecidableEq, Repr, Inhabited

/-- The four persistent decoders (R45). -/
structure HuffSet where
  main : Huff
  dist : Huff
  align : Huff
  len : Huff
deriving DecidableEq, Repr, Inhabited

/-- What the four decoders hold after a table set failed to build: R385 leaves it unspecified, so it is a FREE VALUE
(log 12), one for each count of such failures. -/
opaque Config.decodersAfterFailedBuild : Nat → HuffSet

/-- The build modes of R173. -/
inductive BuildMode where
  | full
  | partialCode
  | fullOrEmpty
deriving DecidableEq, Repr

/-- The Kraft sum in units of 2^-15 (R173). -/
def kraftSum : List Nat → Nat
  | [] => 0
  | l :: ls => (if l = 0 then 0 else 2 ^ (Config.maxCodeLen - l)) + kraftSum ls

/-- What `build` accepts (R172, R173). -/
def buildAccepts (mode : BuildMode) (lens : List Nat) : Bool :=
  lens.all (fun l => decide (l ≤ Config.maxCodeLen)) &&
    match mode with
    | .full => decide (kraftSum lens = 2 ^ Config.maxCodeLen)
    | .partialCode => decide (kraftSum lens ≤ 2 ^ Config.maxCodeLen)
    | .fullOrEmpty => decide (kraftSum lens = 2 ^ Config.maxCodeLen) || decide (kraftSum lens = 0)

/-- The sums of a list's first 0, 1, 2, ... entries, on top of `a`. -/
def runningSums : Nat → List Nat → List Nat
  | a, [] => [a]
  | a, x :: xs => a :: runningSums (a + x) xs

/-- The symbols of length `k` in a length table whose first symbol is `s`, in increasing order (R174). -/
def symbolsOfLen (k : Nat) : Nat → List Nat → List Nat
  | _, [] => []
  | s, l :: ls => if l = k then s :: symbolsOfLen k (s + 1) ls else symbolsOfLen k (s + 1) ls

/-- The code lengths 1 to 15. -/
def codeLens : List Nat := (List.range Config.maxCodeLen).map (· + 1)

/-- The smallest `k`, from the one given on, whose next threshold lies above `v` (R178). The list holds the thresholds
`start[k+1]`, `start[k+2]`, ... -/
def findLen (v : Nat) : Nat → List Nat → Option Nat
  | _, [] => none
  | k, b :: bs => if v < b then some k else findLen v (k + 1) bs

/-- The symbol of the 15-bit value `v` when its code has length `k` (R175). -/
def symbolAt (start off syms : List Nat) (v k : Nat) : Option Nat :=
  syms[off.getD (k - 1) 0 + ((v - start.getD (k - 1) 0) >>> (Config.maxCodeLen - k))]?

/-- Symbol and length of the 15-bit value `v` by the threshold search of R178. -/
def lookup (start off syms : List Nat) (v : Nat) : Option (Nat × Nat) :=
  match findLen v 1 start.tail with
  | none => none
  | some k => (symbolAt start off syms v k).map fun s => (s, k)

/-- The fast table of width `F` (R176). -/
def fastTable (F : Nat) (start off syms : List Nat) : List (Option (Nat × Nat)) :=
  (List.range (2 ^ F)).map fun x =>
    match lookup start off syms (x <<< (Config.maxCodeLen - F)) with
    | some (s, k) => if k ≤ F then some (s, k) else none
    | none => none

/-- The tables of a length table, whatever its Kraft sum (R174 to R176). -/
def Huff.ofLens (F : Nat) (lens : List Nat) : Huff :=
  let count := codeLens.map fun k => lens.count k
  let start := runningSums 0 (List.zipWith (fun c k => c <<< (Config.maxCodeLen - k)) count codeLens)
  let off := runningSums 0 count
  let syms := codeLens.flatMap fun k => symbolsOfLen k 0 lens
  { lens, count, start, off, syms, fast := fastTable F start off syms, empty := lens.all (· == 0) }

/-- `build(lengths, mode)` of R172 to R177 for an instance of fast-table width `F`. -/
def Huff.build (F : Nat) (mode : BuildMode) (lens : List Nat) : Option Huff :=
  if buildAccepts mode lens then some (Huff.ofLens F lens) else none

/-- The empty decoder of an alphabet of `n` symbols (the reset value of R45). -/
def Huff.emptyOf (F n : Nat) : Huff := Huff.ofLens F (List.replicate n 0)

/-- Why a decoder gives no symbol. -/
inductive HuffReject where
  /-- no symbol has a code (R180) -/
  | empty
  /-- the value lies at or above the last threshold of a partial code (R180) -/
  | noCode
deriving DecidableEq, Repr

/-- `decode(H)` of R178 on the 15-bit value `v`: the symbol and its code's length. -/
def Huff.decodeValue (H : Huff) (v : Nat) : Except HuffReject (Nat × Nat) :=
  if H.empty then .error .empty
  else match lookup H.start H.off H.syms v with
    | some r => .ok r
    | none => .error .noCode

/-- `decode(H)` on a stream: it peeks 15 bits (R178). -/
def Huff.decodeBits (H : Huff) (bits : List Bool) : Except HuffReject (Nat × Nat) :=
  H.decodeValue (bitsValue Config.maxCodeLen bits)

/-- The two-level lookup that the unit's description gives (R178, first paragraph): the fast table, then the search
from `F + 1` upward. R179 says that it answers as `Huff.decodeValue` does. -/
def Huff.decodeTwoLevel (F : Nat) (H : Huff) (v : Nat) : Except HuffReject (Nat × Nat) :=
  if H.empty then .error .empty
  else match H.fast[v >>> (Config.maxCodeLen - F)]? with
    | some (some r) => .ok r
    | _ => match findLen v (F + 1) (H.start.drop (F + 1)) with
      | none => .error .noCode
      | some k => match symbolAt H.start H.off H.syms v k with
        | some s => .ok (s, k)
        | none => .error .noCode

/-- `code(s)` of R174 with its length; no code for an absent symbol. -/
def Huff.codeOf (H : Huff) (s : Nat) : Option (Nat × Nat) :=
  match H.lens[s]? with
  | none => none
  | some 0 => none
  | some k => some ((H.start.getD (k - 1) 0 >>> (Config.maxCodeLen - k)) + (H.lens.take s).count k, k)

/-- The code word of symbol `s`, most significant bit first (R108, R174); nothing for an absent symbol. -/
def Huff.codeBits (H : Huff) (s : Nat) : List Bool :=
  match H.codeOf s with
  | none => []
  | some (c, k) => toBits k c

end Sys2Proof
end

