-- ==== Sys2Proof/Machine/Operands.lean ====
section
/-! DEFINITION. Every operand form: the fields that follow a table value and what they assemble to
(30_encoding.md R101 to R116, 42_block_tables.md R196 and R204, 43_lz_symbols.md R229 to R236, 45_output_mainloop.md R290). -/

namespace Sys2Proof.Operands

open Sys2Proof.Config (Params)

/-- A field that follows a table value: `n` raw bits, or the low four bits of a distance, which are an align symbol
or four raw bits (R112). -/
inductive Field where
  | raw (n : Nat)
  | low4
deriving DecidableEq, Repr

/-- The `num` field of a header flags byte, bits 4:3 (R103). -/
def headerNum (flags : Byte) : Nat := (flags.extractLsb' 3 2).toNat

/-- The flags byte of a header with the given fields (R103). -/
def headerFlags (b7m1 : BitVec 3) (num : BitVec 2) (r5 last tables : Bool) : Byte :=
  BitVec.ofBool tables ++ BitVec.ofBool last ++ BitVec.ofBool r5 ++ num ++ b7m1

/-- The property register of the given fields: byte 0 in bits 15:8, byte 1 in bits 7:0 (R101, R40). -/
def propsWord (r0 : BitVec 3) (pow frac : BitVec 5) (r1 v7 solid : Bool) : BitVec 16 :=
  r0 ++ pow ++ frac ++ BitVec.ofBool r1 ++ BitVec.ofBool v7 ++ BitVec.ofBool solid

/-- The rejection test of R290. -/
def propsRejected (pow frac : Nat) : Bool := decide (pow + ((frac + 31) >>> 5) > 14)

/-- The window size of R290. -/
def windowSizeOf (pow frac : Nat) : Nat := max ((frac + 32) <<< (pow + 12)) Config.windowMin

/-- The byte count `bs` of R196 before its zero test. -/
def blockBytes (size b7 : Nat) : Nat := size + (b7 >>> 3)

/-- How many lengths a table set carries (R203). -/
def tablesSizeSum (P : Params) (v7 : Bool) : Nat :=
  P.mainSize + (if v7 then Config.distSizeV7 else Config.distSizeV6) + Config.alignSize + Config.lenSize

/-- `LEVEL_REP_BITS[s]` for level symbols 16 to 19 (R106, R204). -/
def levelRepBits (P : Params) (s : Nat) : Nat := P.levelRepBits.getD (s - 16) 0

/-- The run length of a level symbol 16 to 19 with extra bits `e` (R204). -/
def levelRunCount (P : Params) (s e : Nat) : Nat := P.levelRepBase.getD (s - 16) 0 + e

/-- `nb(s)` of R111: how many extra bits follow length slot `s`. -/
def lenExtraBits (s : Nat) : Nat := if s < 8 then 0 else (s >>> 2) - 1

/-- `base(s)` of R111. -/
def lenBase (s : Nat) : Nat := if s < 8 then s else (4 ||| (s &&& 3)) <<< lenExtraBits s

/-- `SlotToLen` of R229 with the extra bits `x` it reads. -/
def slotToLen (s x : Nat) : Nat := lenBase s + x + 2

/-- `numBits` of a distance slot (R112). -/
def distNumBits (d : Nat) : Nat := if d < 4 then 0 else (d - 2) >>> 1

/-- `base` of a distance slot (R112): the slot itself below 4. -/
def distBase (d : Nat) : Nat := if d < 4 then d else (2 ||| (d &&& 1)) <<< distNumBits d

/-- The final distance of slot `d` with assembled low part `low` (R113, R235, R236). -/
def slotToDist (d low : Nat) : Nat :=
  if distNumBits d ≥ 30 then Config.distSentinel else distBase d + low + 1

/-- The `LEN_PLUS` addend of distance slot `d` (R233): none below width 4, none for the sentinel slots (R235). -/
def lenPlus (P : Params) (d : Nat) : Nat :=
  if 4 ≤ distNumBits d ∧ distNumBits d < 30 then P.lenPlus.getD (distNumBits d) 0 else 0

/-- The low part of a distance from its raw high bits and its low four bits (R113, R234). -/
def joinLow (high lo4 : Nat) : Nat := (high <<< 4) + lo4

/-- The fields after length slot `s` (R111). -/
def lenFields (s : Nat) : List Field := if lenExtraBits s = 0 then [] else [.raw (lenExtraBits s)]

/-- The fields after distance slot `d` (R112). -/
def distFields (d : Nat) : List Field :=
  if d < 4 then []
  else if distNumBits d < 4 then [.raw (distNumBits d)]
  else if distNumBits d = 4 then [.low4]
  else if distNumBits d < 30 then [.raw (distNumBits d - 4), .low4]
  else []

/-- The fields after level symbol `s` (R106). -/
def levelFields (P : Params) (s : Nat) : List Field := if s < 16 then [] else [.raw (levelRepBits P s)]

/-- The fields after main symbol `s` (R110): a MATCH carries its length slot's extra bits. -/
def mainFields (s : Nat) : List Field := if 262 ≤ s ∧ s < 306 then lenFields (s - 262) else []

/-- The fields after a VU32 selector (R116). -/
def vuFields (sel : Nat) : List Field := List.replicate (sel + 1) (.raw 8)

/-- The type codes in the order of the FILTERTYPE rows (R117, R262): the four that name a filter, then those that name none, in
increasing order. -/
def typeCodes (P : Params) : List Nat :=
  let named := [P.typeDelta, P.typeE8, P.typeE8E9, P.typeArm]
  named ++ (List.range 8).filter fun c => !named.contains c

/-- The raw type code of FILTERTYPE row `r` (R117). -/
def rowCode (P : Params) (r : Nat) : Nat := (typeCodes P).getD r 0

/-- The FILTERTYPE row of a raw type code (R117). -/
def codeRow (P : Params) (code : Nat) : Nat := (typeCodes P).idxOf code

/-- The type code names one of the four transforms (R117, R262). -/
def filterKnown (P : Params) (code : Nat) : Bool := [P.typeDelta, P.typeE8, P.typeE8E9, P.typeArm].contains code

/-- The fields after FILTERTYPE row `r` (R115): `channelsM1` for DELTA. -/
def filterFields (r : Nat) : List Field := if r = 0 then [.raw 5] else []

end Sys2Proof.Operands
end

