-- ==== Sys2Proof/Syntax.lean ====
section
/-! DEFINITION. The instructions: one constructor per row of spec/opcode_table.json, in its order.
Operands of a width that differs from slot to slot are naturals, bounded in WellFormed. -/

namespace Sys2Proof

/-- The stream fields a row of the opcode table can stand for (30_encoding.md R132). The constructors' comments name
the format, the table's value and the rule. -/
inductive Instr where
  -- PROPS, the two property bytes (R101). Fields in stream order: byte 0 bits 7:5 (not described), `pow`; byte 1 `frac`, bit 2 (not described), `v7`, `solid`.
  | props (r0 : BitVec 3) (pow : BitVec 5) (frac : BitVec 5) (r1 : Bool) (v7 : Bool) (solid : Bool)  -- PROPS, R290
  -- BLOCKFLAGS, the block header by `num` (R102, R103). Fields: `b7m1`, bit 5 (not described), `last`, `tables`, `checksumXor`, then the size bytes, least significant first.
  | blkhdr0 (b7m1 : BitVec 3) (r5 : Bool) (last : Bool) (tables : Bool) (cx : Byte) (s0 : Byte)  -- BLKHDR, R191
  | blkhdr1 (b7m1 : BitVec 3) (r5 : Bool) (last : Bool) (tables : Bool) (cx : Byte) (s0 : Byte) (s1 : Byte)  -- BLKHDR, R191
  | blkhdr2 (b7m1 : BitVec 3) (r5 : Bool) (last : Bool) (tables : Bool) (cx : Byte) (s0 : Byte) (s1 : Byte) (s2 : Byte)  -- BLKHDR, R191
  | blkhdrNum3 (b7m1 : BitVec 3) (r5 : Bool) (last : Bool) (tables : Bool) (cx : Byte)  -- BLKHDR.NUM3 (illegal), R194
  -- LEVELNIB, the first nibble of a level-length step (R105).
  | lvlNib0
  | lvlNib1
  | lvlNib2
  | lvlNib3
  | lvlNib4
  | lvlNib5
  | lvlNib6
  | lvlNib7
  | lvlNib8
  | lvlNib9
  | lvlNib10
  | lvlNib11
  | lvlNib12
  | lvlNib13
  | lvlNib14
  | lvlEsc
  -- LEVELNIB2, the second nibble after a 15 (R105).
  | lvlNib15
  | lvlZrun1
  | lvlZrun2
  | lvlZrun3
  | lvlZrun4
  | lvlZrun5
  | lvlZrun6
  | lvlZrun7
  | lvlZrun8
  | lvlZrun9
  | lvlZrun10
  | lvlZrun11
  | lvlZrun12
  | lvlZrun13
  | lvlZrun14
  | lvlZrun15
  -- LEVELSYM, a level-decoder symbol; `e` is its extra-bit field (R106).
  | lvLen0
  | lvLen1
  | lvLen2
  | lvLen3
  | lvLen4
  | lvLen5
  | lvLen6
  | lvLen7
  | lvLen8
  | lvLen9
  | lvLen10
  | lvLen11
  | lvLen12
  | lvLen13
  | lvLen14
  | lvLen15
  | lvRepS (e : Nat)
  | lvRepL (e : Nat)
  | lvZeroS (e : Nat)
  | lvZeroL (e : Nat)
  -- MAINSYM, a main-decoder symbol; `x` is the length slot's extra-bit field (R110, R111).
  | lit (b : Byte)
  | filter
  | lastlen
  | rep0
  | rep1
  | rep2
  | rep3
  | matchSlot0
  | matchSlot1
  | matchSlot2
  | matchSlot3
  | matchSlot4
  | matchSlot5
  | matchSlot6
  | matchSlot7
  | matchSlot8 (x : Nat)
  | matchSlot9 (x : Nat)
  | matchSlot10 (x : Nat)
  | matchSlot11 (x : Nat)
  | matchSlot12 (x : Nat)
  | matchSlot13 (x : Nat)
  | matchSlot14 (x : Nat)
  | matchSlot15 (x : Nat)
  | matchSlot16 (x : Nat)
  | matchSlot17 (x : Nat)
  | matchSlot18 (x : Nat)
  | matchSlot19 (x : Nat)
  | matchSlot20 (x : Nat)
  | matchSlot21 (x : Nat)
  | matchSlot22 (x : Nat)
  | matchSlot23 (x : Nat)
  | matchSlot24 (x : Nat)
  | matchSlot25 (x : Nat)
  | matchSlot26 (x : Nat)
  | matchSlot27 (x : Nat)
  | matchSlot28 (x : Nat)
  | matchSlot29 (x : Nat)
  | matchSlot30 (x : Nat)
  | matchSlot31 (x : Nat)
  | matchSlot32 (x : Nat)
  | matchSlot33 (x : Nat)
  | matchSlot34 (x : Nat)
  | matchSlot35 (x : Nat)
  | matchSlot36 (x : Nat)
  | matchSlot37 (x : Nat)
  | matchSlot38 (x : Nat)
  | matchSlot39 (x : Nat)
  | matchSlot40 (x : Nat)
  | matchSlot41 (x : Nat)
  | matchSlot42 (x : Nat)
  | matchSlot43 (x : Nat)
  | reserved306
  | reserved307
  | reserved308
  | reserved309
  | reserved310
  | reserved311
  -- LENSLOT, a len-decoder symbol after REPk; `x` is its extra-bit field (R111).
  | lenSlot0
  | lenSlot1
  | lenSlot2
  | lenSlot3
  | lenSlot4
  | lenSlot5
  | lenSlot6
  | lenSlot7
  | lenSlot8 (x : Nat)
  | lenSlot9 (x : Nat)
  | lenSlot10 (x : Nat)
  | lenSlot11 (x : Nat)
  | lenSlot12 (x : Nat)
  | lenSlot13 (x : Nat)
  | lenSlot14 (x : Nat)
  | lenSlot15 (x : Nat)
  | lenSlot16 (x : Nat)
  | lenSlot17 (x : Nat)
  | lenSlot18 (x : Nat)
  | lenSlot19 (x : Nat)
  | lenSlot20 (x : Nat)
  | lenSlot21 (x : Nat)
  | lenSlot22 (x : Nat)
  | lenSlot23 (x : Nat)
  | lenSlot24 (x : Nat)
  | lenSlot25 (x : Nat)
  | lenSlot26 (x : Nat)
  | lenSlot27 (x : Nat)
  | lenSlot28 (x : Nat)
  | lenSlot29 (x : Nat)
  | lenSlot30 (x : Nat)
  | lenSlot31 (x : Nat)
  | lenSlot32 (x : Nat)
  | lenSlot33 (x : Nat)
  | lenSlot34 (x : Nat)
  | lenSlot35 (x : Nat)
  | lenSlot36 (x : Nat)
  | lenSlot37 (x : Nat)
  | lenSlot38 (x : Nat)
  | lenSlot39 (x : Nat)
  | lenSlot40 (x : Nat)
  | lenSlot41 (x : Nat)
  | lenSlot42 (x : Nat)
  | lenSlot43 (x : Nat)
  -- DISTSLOT, a dist-decoder symbol after MATCH; `low` the raw bits of a slot below 10, `high` the raw high bits and `lo4` the low four (R112).
  | distSlot0
  | distSlot1
  | distSlot2
  | distSlot3
  | distSlot4 (low : Nat)
  | distSlot5 (low : Nat)
  | distSlot6 (low : Nat)
  | distSlot7 (low : Nat)
  | distSlot8 (low : Nat)
  | distSlot9 (low : Nat)
  | distSlot10 (lo4 : Nat)
  | distSlot11 (lo4 : Nat)
  | distSlot12 (high : Nat) (lo4 : Nat)
  | distSlot13 (high : Nat) (lo4 : Nat)
  | distSlot14 (high : Nat) (lo4 : Nat)
  | distSlot15 (high : Nat) (lo4 : Nat)
  | distSlot16 (high : Nat) (lo4 : Nat)
  | distSlot17 (high : Nat) (lo4 : Nat)
  | distSlot18 (high : Nat) (lo4 : Nat)
  | distSlot19 (high : Nat) (lo4 : Nat)
  | distSlot20 (high : Nat) (lo4 : Nat)
  | distSlot21 (high : Nat) (lo4 : Nat)
  | distSlot22 (high : Nat) (lo4 : Nat)
  | distSlot23 (high : Nat) (lo4 : Nat)
  | distSlot24 (high : Nat) (lo4 : Nat)
  | distSlot25 (high : Nat) (lo4 : Nat)
  | distSlot26 (high : Nat) (lo4 : Nat)
  | distSlot27 (high : Nat) (lo4 : Nat)
  | distSlot28 (high : Nat) (lo4 : Nat)
  | distSlot29 (high : Nat) (lo4 : Nat)
  | distSlot30 (high : Nat) (lo4 : Nat)
  | distSlot31 (high : Nat) (lo4 : Nat)
  | distSlot32 (high : Nat) (lo4 : Nat)
  | distSlot33 (high : Nat) (lo4 : Nat)
  | distSlot34 (high : Nat) (lo4 : Nat)
  | distSlot35 (high : Nat) (lo4 : Nat)
  | distSlot36 (high : Nat) (lo4 : Nat)
  | distSlot37 (high : Nat) (lo4 : Nat)
  | distSlot38 (high : Nat) (lo4 : Nat)
  | distSlot39 (high : Nat) (lo4 : Nat)
  | distSlot40 (high : Nat) (lo4 : Nat)
  | distSlot41 (high : Nat) (lo4 : Nat)
  | distSlot42 (high : Nat) (lo4 : Nat)
  | distSlot43 (high : Nat) (lo4 : Nat)
  | distSlot44 (high : Nat) (lo4 : Nat)
  | distSlot45 (high : Nat) (lo4 : Nat)
  | distSlot46 (high : Nat) (lo4 : Nat)
  | distSlot47 (high : Nat) (lo4 : Nat)
  | distSlot48 (high : Nat) (lo4 : Nat)
  | distSlot49 (high : Nat) (lo4 : Nat)
  | distSlot50 (high : Nat) (lo4 : Nat)
  | distSlot51 (high : Nat) (lo4 : Nat)
  | distSlot52 (high : Nat) (lo4 : Nat)
  | distSlot53 (high : Nat) (lo4 : Nat)
  | distSlot54 (high : Nat) (lo4 : Nat)
  | distSlot55 (high : Nat) (lo4 : Nat)
  | distSlot56 (high : Nat) (lo4 : Nat)
  | distSlot57 (high : Nat) (lo4 : Nat)
  | distSlot58 (high : Nat) (lo4 : Nat)
  | distSlot59 (high : Nat) (lo4 : Nat)
  | distSlot60 (high : Nat) (lo4 : Nat)
  | distSlot61 (high : Nat) (lo4 : Nat)
  | distSlot62
  | distSlot63
  | distSlot64
  | distSlot65
  | distSlot66
  | distSlot67
  | distSlot68
  | distSlot69
  | distSlot70
  | distSlot71
  | distSlot72
  | distSlot73
  | distSlot74
  | distSlot75
  | distSlot76
  | distSlot77
  | distSlot78
  | distSlot79
  -- VUSEL, the selector of a VU32 and its bytes, least significant first (R116).
  | vu32Sel0 (b0 : Byte)
  | vu32Sel1 (b0 : Byte) (b1 : Byte)
  | vu32Sel2 (b0 : Byte) (b1 : Byte) (b2 : Byte)
  | vu32Sel3 (b0 : Byte) (b1 : Byte) (b2 : Byte) (b3 : Byte)
  -- FILTERTYPE, the last field of a filter descriptor (R115, R117).
  | typeDelta (channelsM1 : BitVec 5)
  | typeE8
  | typeE8E9
  | typeArm
  | type4
  | type5
  | type6
  | type7
deriving DecidableEq, Repr

end Sys2Proof
end

