-- ==== Sys2Proof/Machine/Rows.lean ====
section
/-! DEFINITION. The rows of the opcode table: each constructor's format and table value, its operand values, and the
way back from a format, a value and operand values to the constructor (30_encoding.md R132). -/

namespace Sys2Proof

/-- The formats of R132: what kind of field comes next in the stream. -/
inductive Format where
  | props
  | blockFlags
  | levelNib
  | levelNib2
  | levelSym
  | mainSym
  | lenSlot
  | distSlot
  | vuSel
  | filterType
deriving DecidableEq, Repr

/-- The format of an instruction's row. -/
def Instr.format : Instr → Format
  | .props _ _ _ _ _ _ => .props
  | .blkhdr0 _ _ _ _ _ _ => .blockFlags
  | .blkhdr1 _ _ _ _ _ _ _ => .blockFlags
  | .blkhdr2 _ _ _ _ _ _ _ _ => .blockFlags
  | .blkhdrNum3 _ _ _ _ _ => .blockFlags
  | .lvlNib0 => .levelNib
  | .lvlNib1 => .levelNib
  | .lvlNib2 => .levelNib
  | .lvlNib3 => .levelNib
  | .lvlNib4 => .levelNib
  | .lvlNib5 => .levelNib
  | .lvlNib6 => .levelNib
  | .lvlNib7 => .levelNib
  | .lvlNib8 => .levelNib
  | .lvlNib9 => .levelNib
  | .lvlNib10 => .levelNib
  | .lvlNib11 => .levelNib
  | .lvlNib12 => .levelNib
  | .lvlNib13 => .levelNib
  | .lvlNib14 => .levelNib
  | .lvlEsc => .levelNib
  | .lvlNib15 => .levelNib2
  | .lvlZrun1 => .levelNib2
  | .lvlZrun2 => .levelNib2
  | .lvlZrun3 => .levelNib2
  | .lvlZrun4 => .levelNib2
  | .lvlZrun5 => .levelNib2
  | .lvlZrun6 => .levelNib2
  | .lvlZrun7 => .levelNib2
  | .lvlZrun8 => .levelNib2
  | .lvlZrun9 => .levelNib2
  | .lvlZrun10 => .levelNib2
  | .lvlZrun11 => .levelNib2
  | .lvlZrun12 => .levelNib2
  | .lvlZrun13 => .levelNib2
  | .lvlZrun14 => .levelNib2
  | .lvlZrun15 => .levelNib2
  | .lvLen0 => .levelSym
  | .lvLen1 => .levelSym
  | .lvLen2 => .levelSym
  | .lvLen3 => .levelSym
  | .lvLen4 => .levelSym
  | .lvLen5 => .levelSym
  | .lvLen6 => .levelSym
  | .lvLen7 => .levelSym
  | .lvLen8 => .levelSym
  | .lvLen9 => .levelSym
  | .lvLen10 => .levelSym
  | .lvLen11 => .levelSym
  | .lvLen12 => .levelSym
  | .lvLen13 => .levelSym
  | .lvLen14 => .levelSym
  | .lvLen15 => .levelSym
  | .lvRepS _ => .levelSym
  | .lvRepL _ => .levelSym
  | .lvZeroS _ => .levelSym
  | .lvZeroL _ => .levelSym
  | .lit _ => .mainSym
  | .filter => .mainSym
  | .lastlen => .mainSym
  | .rep0 => .mainSym
  | .rep1 => .mainSym
  | .rep2 => .mainSym
  | .rep3 => .mainSym
  | .matchSlot0 => .mainSym
  | .matchSlot1 => .mainSym
  | .matchSlot2 => .mainSym
  | .matchSlot3 => .mainSym
  | .matchSlot4 => .mainSym
  | .matchSlot5 => .mainSym
  | .matchSlot6 => .mainSym
  | .matchSlot7 => .mainSym
  | .matchSlot8 _ => .mainSym
  | .matchSlot9 _ => .mainSym
  | .matchSlot10 _ => .mainSym
  | .matchSlot11 _ => .mainSym
  | .matchSlot12 _ => .mainSym
  | .matchSlot13 _ => .mainSym
  | .matchSlot14 _ => .mainSym
  | .matchSlot15 _ => .mainSym
  | .matchSlot16 _ => .mainSym
  | .matchSlot17 _ => .mainSym
  | .matchSlot18 _ => .mainSym
  | .matchSlot19 _ => .mainSym
  | .matchSlot20 _ => .mainSym
  | .matchSlot21 _ => .mainSym
  | .matchSlot22 _ => .mainSym
  | .matchSlot23 _ => .mainSym
  | .matchSlot24 _ => .mainSym
  | .matchSlot25 _ => .mainSym
  | .matchSlot26 _ => .mainSym
  | .matchSlot27 _ => .mainSym
  | .matchSlot28 _ => .mainSym
  | .matchSlot29 _ => .mainSym
  | .matchSlot30 _ => .mainSym
  | .matchSlot31 _ => .mainSym
  | .matchSlot32 _ => .mainSym
  | .matchSlot33 _ => .mainSym
  | .matchSlot34 _ => .mainSym
  | .matchSlot35 _ => .mainSym
  | .matchSlot36 _ => .mainSym
  | .matchSlot37 _ => .mainSym
  | .matchSlot38 _ => .mainSym
  | .matchSlot39 _ => .mainSym
  | .matchSlot40 _ => .mainSym
  | .matchSlot41 _ => .mainSym
  | .matchSlot42 _ => .mainSym
  | .matchSlot43 _ => .mainSym
  | .reserved306 => .mainSym
  | .reserved307 => .mainSym
  | .reserved308 => .mainSym
  | .reserved309 => .mainSym
  | .reserved310 => .mainSym
  | .reserved311 => .mainSym
  | .lenSlot0 => .lenSlot
  | .lenSlot1 => .lenSlot
  | .lenSlot2 => .lenSlot
  | .lenSlot3 => .lenSlot
  | .lenSlot4 => .lenSlot
  | .lenSlot5 => .lenSlot
  | .lenSlot6 => .lenSlot
  | .lenSlot7 => .lenSlot
  | .lenSlot8 _ => .lenSlot
  | .lenSlot9 _ => .lenSlot
  | .lenSlot10 _ => .lenSlot
  | .lenSlot11 _ => .lenSlot
  | .lenSlot12 _ => .lenSlot
  | .lenSlot13 _ => .lenSlot
  | .lenSlot14 _ => .lenSlot
  | .lenSlot15 _ => .lenSlot
  | .lenSlot16 _ => .lenSlot
  | .lenSlot17 _ => .lenSlot
  | .lenSlot18 _ => .lenSlot
  | .lenSlot19 _ => .lenSlot
  | .lenSlot20 _ => .lenSlot
  | .lenSlot21 _ => .lenSlot
  | .lenSlot22 _ => .lenSlot
  | .lenSlot23 _ => .lenSlot
  | .lenSlot24 _ => .lenSlot
  | .lenSlot25 _ => .lenSlot
  | .lenSlot26 _ => .lenSlot
  | .lenSlot27 _ => .lenSlot
  | .lenSlot28 _ => .lenSlot
  | .lenSlot29 _ => .lenSlot
  | .lenSlot30 _ => .lenSlot
  | .lenSlot31 _ => .lenSlot
  | .lenSlot32 _ => .lenSlot
  | .lenSlot33 _ => .lenSlot
  | .lenSlot34 _ => .lenSlot
  | .lenSlot35 _ => .lenSlot
  | .lenSlot36 _ => .lenSlot
  | .lenSlot37 _ => .lenSlot
  | .lenSlot38 _ => .lenSlot
  | .lenSlot39 _ => .lenSlot
  | .lenSlot40 _ => .lenSlot
  | .lenSlot41 _ => .lenSlot
  | .lenSlot42 _ => .lenSlot
  | .lenSlot43 _ => .lenSlot
  | .distSlot0 => .distSlot
  | .distSlot1 => .distSlot
  | .distSlot2 => .distSlot
  | .distSlot3 => .distSlot
  | .distSlot4 _ => .distSlot
  | .distSlot5 _ => .distSlot
  | .distSlot6 _ => .distSlot
  | .distSlot7 _ => .distSlot
  | .distSlot8 _ => .distSlot
  | .distSlot9 _ => .distSlot
  | .distSlot10 _ => .distSlot
  | .distSlot11 _ => .distSlot
  | .distSlot12 _ _ => .distSlot
  | .distSlot13 _ _ => .distSlot
  | .distSlot14 _ _ => .distSlot
  | .distSlot15 _ _ => .distSlot
  | .distSlot16 _ _ => .distSlot
  | .distSlot17 _ _ => .distSlot
  | .distSlot18 _ _ => .distSlot
  | .distSlot19 _ _ => .distSlot
  | .distSlot20 _ _ => .distSlot
  | .distSlot21 _ _ => .distSlot
  | .distSlot22 _ _ => .distSlot
  | .distSlot23 _ _ => .distSlot
  | .distSlot24 _ _ => .distSlot
  | .distSlot25 _ _ => .distSlot
  | .distSlot26 _ _ => .distSlot
  | .distSlot27 _ _ => .distSlot
  | .distSlot28 _ _ => .distSlot
  | .distSlot29 _ _ => .distSlot
  | .distSlot30 _ _ => .distSlot
  | .distSlot31 _ _ => .distSlot
  | .distSlot32 _ _ => .distSlot
  | .distSlot33 _ _ => .distSlot
  | .distSlot34 _ _ => .distSlot
  | .distSlot35 _ _ => .distSlot
  | .distSlot36 _ _ => .distSlot
  | .distSlot37 _ _ => .distSlot
  | .distSlot38 _ _ => .distSlot
  | .distSlot39 _ _ => .distSlot
  | .distSlot40 _ _ => .distSlot
  | .distSlot41 _ _ => .distSlot
  | .distSlot42 _ _ => .distSlot
  | .distSlot43 _ _ => .distSlot
  | .distSlot44 _ _ => .distSlot
  | .distSlot45 _ _ => .distSlot
  | .distSlot46 _ _ => .distSlot
  | .distSlot47 _ _ => .distSlot
  | .distSlot48 _ _ => .distSlot
  | .distSlot49 _ _ => .distSlot
  | .distSlot50 _ _ => .distSlot
  | .distSlot51 _ _ => .distSlot
  | .distSlot52 _ _ => .distSlot
  | .distSlot53 _ _ => .distSlot
  | .distSlot54 _ _ => .distSlot
  | .distSlot55 _ _ => .distSlot
  | .distSlot56 _ _ => .distSlot
  | .distSlot57 _ _ => .distSlot
  | .distSlot58 _ _ => .distSlot
  | .distSlot59 _ _ => .distSlot
  | .distSlot60 _ _ => .distSlot
  | .distSlot61 _ _ => .distSlot
  | .distSlot62 => .distSlot
  | .distSlot63 => .distSlot
  | .distSlot64 => .distSlot
  | .distSlot65 => .distSlot
  | .distSlot66 => .distSlot
  | .distSlot67 => .distSlot
  | .distSlot68 => .distSlot
  | .distSlot69 => .distSlot
  | .distSlot70 => .distSlot
  | .distSlot71 => .distSlot
  | .distSlot72 => .distSlot
  | .distSlot73 => .distSlot
  | .distSlot74 => .distSlot
  | .distSlot75 => .distSlot
  | .distSlot76 => .distSlot
  | .distSlot77 => .distSlot
  | .distSlot78 => .distSlot
  | .distSlot79 => .distSlot
  | .vu32Sel0 _ => .vuSel
  | .vu32Sel1 _ _ => .vuSel
  | .vu32Sel2 _ _ _ => .vuSel
  | .vu32Sel3 _ _ _ _ => .vuSel
  | .typeDelta _ => .filterType
  | .typeE8 => .filterType
  | .typeE8E9 => .filterType
  | .typeArm => .filterType
  | .type4 => .filterType
  | .type5 => .filterType
  | .type6 => .filterType
  | .type7 => .filterType

/-- The table value of an instruction's row: the raw field, or the decoded symbol (R132). For PROPS, whose row has no selector, it
is 0; for BLOCKFLAGS it is `num`; for FILTERTYPE it is the number of the row, whose raw field is `Operands.rowCode` of it (R117). -/
def Instr.symbol : Instr → Nat
  | .props _ _ _ _ _ _ => 0
  | .blkhdr0 _ _ _ _ _ _ => 0
  | .blkhdr1 _ _ _ _ _ _ _ => 1
  | .blkhdr2 _ _ _ _ _ _ _ _ => 2
  | .blkhdrNum3 _ _ _ _ _ => 3
  | .lvlNib0 => 0
  | .lvlNib1 => 1
  | .lvlNib2 => 2
  | .lvlNib3 => 3
  | .lvlNib4 => 4
  | .lvlNib5 => 5
  | .lvlNib6 => 6
  | .lvlNib7 => 7
  | .lvlNib8 => 8
  | .lvlNib9 => 9
  | .lvlNib10 => 10
  | .lvlNib11 => 11
  | .lvlNib12 => 12
  | .lvlNib13 => 13
  | .lvlNib14 => 14
  | .lvlEsc => 15
  | .lvlNib15 => 0
  | .lvlZrun1 => 1
  | .lvlZrun2 => 2
  | .lvlZrun3 => 3
  | .lvlZrun4 => 4
  | .lvlZrun5 => 5
  | .lvlZrun6 => 6
  | .lvlZrun7 => 7
  | .lvlZrun8 => 8
  | .lvlZrun9 => 9
  | .lvlZrun10 => 10
  | .lvlZrun11 => 11
  | .lvlZrun12 => 12
  | .lvlZrun13 => 13
  | .lvlZrun14 => 14
  | .lvlZrun15 => 15
  | .lvLen0 => 0
  | .lvLen1 => 1
  | .lvLen2 => 2
  | .lvLen3 => 3
  | .lvLen4 => 4
  | .lvLen5 => 5
  | .lvLen6 => 6
  | .lvLen7 => 7
  | .lvLen8 => 8
  | .lvLen9 => 9
  | .lvLen10 => 10
  | .lvLen11 => 11
  | .lvLen12 => 12
  | .lvLen13 => 13
  | .lvLen14 => 14
  | .lvLen15 => 15
  | .lvRepS _ => 16
  | .lvRepL _ => 17
  | .lvZeroS _ => 18
  | .lvZeroL _ => 19
  | .lit b => b.toNat
  | .filter => 256
  | .lastlen => 257
  | .rep0 => 258
  | .rep1 => 259
  | .rep2 => 260
  | .rep3 => 261
  | .matchSlot0 => 262
  | .matchSlot1 => 263
  | .matchSlot2 => 264
  | .matchSlot3 => 265
  | .matchSlot4 => 266
  | .matchSlot5 => 267
  | .matchSlot6 => 268
  | .matchSlot7 => 269
  | .matchSlot8 _ => 270
  | .matchSlot9 _ => 271
  | .matchSlot10 _ => 272
  | .matchSlot11 _ => 273
  | .matchSlot12 _ => 274
  | .matchSlot13 _ => 275
  | .matchSlot14 _ => 276
  | .matchSlot15 _ => 277
  | .matchSlot16 _ => 278
  | .matchSlot17 _ => 279
  | .matchSlot18 _ => 280
  | .matchSlot19 _ => 281
  | .matchSlot20 _ => 282
  | .matchSlot21 _ => 283
  | .matchSlot22 _ => 284
  | .matchSlot23 _ => 285
  | .matchSlot24 _ => 286
  | .matchSlot25 _ => 287
  | .matchSlot26 _ => 288
  | .matchSlot27 _ => 289
  | .matchSlot28 _ => 290
  | .matchSlot29 _ => 291
  | .matchSlot30 _ => 292
  | .matchSlot31 _ => 293
  | .matchSlot32 _ => 294
  | .matchSlot33 _ => 295
  | .matchSlot34 _ => 296
  | .matchSlot35 _ => 297
  | .matchSlot36 _ => 298
  | .matchSlot37 _ => 299
  | .matchSlot38 _ => 300
  | .matchSlot39 _ => 301
  | .matchSlot40 _ => 302
  | .matchSlot41 _ => 303
  | .matchSlot42 _ => 304
  | .matchSlot43 _ => 305
  | .reserved306 => 306
  | .reserved307 => 307
  | .reserved308 => 308
  | .reserved309 => 309
  | .reserved310 => 310
  | .reserved311 => 311
  | .lenSlot0 => 0
  | .lenSlot1 => 1
  | .lenSlot2 => 2
  | .lenSlot3 => 3
  | .lenSlot4 => 4
  | .lenSlot5 => 5
  | .lenSlot6 => 6
  | .lenSlot7 => 7
  | .lenSlot8 _ => 8
  | .lenSlot9 _ => 9
  | .lenSlot10 _ => 10
  | .lenSlot11 _ => 11
  | .lenSlot12 _ => 12
  | .lenSlot13 _ => 13
  | .lenSlot14 _ => 14
  | .lenSlot15 _ => 15
  | .lenSlot16 _ => 16
  | .lenSlot17 _ => 17
  | .lenSlot18 _ => 18
  | .lenSlot19 _ => 19
  | .lenSlot20 _ => 20
  | .lenSlot21 _ => 21
  | .lenSlot22 _ => 22
  | .lenSlot23 _ => 23
  | .lenSlot24 _ => 24
  | .lenSlot25 _ => 25
  | .lenSlot26 _ => 26
  | .lenSlot27 _ => 27
  | .lenSlot28 _ => 28
  | .lenSlot29 _ => 29
  | .lenSlot30 _ => 30
  | .lenSlot31 _ => 31
  | .lenSlot32 _ => 32
  | .lenSlot33 _ => 33
  | .lenSlot34 _ => 34
  | .lenSlot35 _ => 35
  | .lenSlot36 _ => 36
  | .lenSlot37 _ => 37
  | .lenSlot38 _ => 38
  | .lenSlot39 _ => 39
  | .lenSlot40 _ => 40
  | .lenSlot41 _ => 41
  | .lenSlot42 _ => 42
  | .lenSlot43 _ => 43
  | .distSlot0 => 0
  | .distSlot1 => 1
  | .distSlot2 => 2
  | .distSlot3 => 3
  | .distSlot4 _ => 4
  | .distSlot5 _ => 5
  | .distSlot6 _ => 6
  | .distSlot7 _ => 7
  | .distSlot8 _ => 8
  | .distSlot9 _ => 9
  | .distSlot10 _ => 10
  | .distSlot11 _ => 11
  | .distSlot12 _ _ => 12
  | .distSlot13 _ _ => 13
  | .distSlot14 _ _ => 14
  | .distSlot15 _ _ => 15
  | .distSlot16 _ _ => 16
  | .distSlot17 _ _ => 17
  | .distSlot18 _ _ => 18
  | .distSlot19 _ _ => 19
  | .distSlot20 _ _ => 20
  | .distSlot21 _ _ => 21
  | .distSlot22 _ _ => 22
  | .distSlot23 _ _ => 23
  | .distSlot24 _ _ => 24
  | .distSlot25 _ _ => 25
  | .distSlot26 _ _ => 26
  | .distSlot27 _ _ => 27
  | .distSlot28 _ _ => 28
  | .distSlot29 _ _ => 29
  | .distSlot30 _ _ => 30
  | .distSlot31 _ _ => 31
  | .distSlot32 _ _ => 32
  | .distSlot33 _ _ => 33
  | .distSlot34 _ _ => 34
  | .distSlot35 _ _ => 35
  | .distSlot36 _ _ => 36
  | .distSlot37 _ _ => 37
  | .distSlot38 _ _ => 38
  | .distSlot39 _ _ => 39
  | .distSlot40 _ _ => 40
  | .distSlot41 _ _ => 41
  | .distSlot42 _ _ => 42
  | .distSlot43 _ _ => 43
  | .distSlot44 _ _ => 44
  | .distSlot45 _ _ => 45
  | .distSlot46 _ _ => 46
  | .distSlot47 _ _ => 47
  | .distSlot48 _ _ => 48
  | .distSlot49 _ _ => 49
  | .distSlot50 _ _ => 50
  | .distSlot51 _ _ => 51
  | .distSlot52 _ _ => 52
  | .distSlot53 _ _ => 53
  | .distSlot54 _ _ => 54
  | .distSlot55 _ _ => 55
  | .distSlot56 _ _ => 56
  | .distSlot57 _ _ => 57
  | .distSlot58 _ _ => 58
  | .distSlot59 _ _ => 59
  | .distSlot60 _ _ => 60
  | .distSlot61 _ _ => 61
  | .distSlot62 => 62
  | .distSlot63 => 63
  | .distSlot64 => 64
  | .distSlot65 => 65
  | .distSlot66 => 66
  | .distSlot67 => 67
  | .distSlot68 => 68
  | .distSlot69 => 69
  | .distSlot70 => 70
  | .distSlot71 => 71
  | .distSlot72 => 72
  | .distSlot73 => 73
  | .distSlot74 => 74
  | .distSlot75 => 75
  | .distSlot76 => 76
  | .distSlot77 => 77
  | .distSlot78 => 78
  | .distSlot79 => 79
  | .vu32Sel0 _ => 0
  | .vu32Sel1 _ _ => 1
  | .vu32Sel2 _ _ _ => 2
  | .vu32Sel3 _ _ _ _ => 3
  | .typeDelta _ => 0
  | .typeE8 => 1
  | .typeE8E9 => 2
  | .typeArm => 3
  | .type4 => 4
  | .type5 => 5
  | .type6 => 6
  | .type7 => 7

/-- The values of the fields that follow the table value, in stream order. The fields of PROPS and BLOCKFLAGS stand inside
their words and are not listed here. -/
def Instr.operands : Instr → List Nat
  | .props _ _ _ _ _ _ => []
  | .blkhdr0 _ _ _ _ _ _ => []
  | .blkhdr1 _ _ _ _ _ _ _ => []
  | .blkhdr2 _ _ _ _ _ _ _ _ => []
  | .blkhdrNum3 _ _ _ _ _ => []
  | .lvlNib0 => []
  | .lvlNib1 => []
  | .lvlNib2 => []
  | .lvlNib3 => []
  | .lvlNib4 => []
  | .lvlNib5 => []
  | .lvlNib6 => []
  | .lvlNib7 => []
  | .lvlNib8 => []
  | .lvlNib9 => []
  | .lvlNib10 => []
  | .lvlNib11 => []
  | .lvlNib12 => []
  | .lvlNib13 => []
  | .lvlNib14 => []
  | .lvlEsc => []
  | .lvlNib15 => []
  | .lvlZrun1 => []
  | .lvlZrun2 => []
  | .lvlZrun3 => []
  | .lvlZrun4 => []
  | .lvlZrun5 => []
  | .lvlZrun6 => []
  | .lvlZrun7 => []
  | .lvlZrun8 => []
  | .lvlZrun9 => []
  | .lvlZrun10 => []
  | .lvlZrun11 => []
  | .lvlZrun12 => []
  | .lvlZrun13 => []
  | .lvlZrun14 => []
  | .lvlZrun15 => []
  | .lvLen0 => []
  | .lvLen1 => []
  | .lvLen2 => []
  | .lvLen3 => []
  | .lvLen4 => []
  | .lvLen5 => []
  | .lvLen6 => []
  | .lvLen7 => []
  | .lvLen8 => []
  | .lvLen9 => []
  | .lvLen10 => []
  | .lvLen11 => []
  | .lvLen12 => []
  | .lvLen13 => []
  | .lvLen14 => []
  | .lvLen15 => []
  | .lvRepS e => [e]
  | .lvRepL e => [e]
  | .lvZeroS e => [e]
  | .lvZeroL e => [e]
  | .lit _ => []
  | .filter => []
  | .lastlen => []
  | .rep0 => []
  | .rep1 => []
  | .rep2 => []
  | .rep3 => []
  | .matchSlot0 => []
  | .matchSlot1 => []
  | .matchSlot2 => []
  | .matchSlot3 => []
  | .matchSlot4 => []
  | .matchSlot5 => []
  | .matchSlot6 => []
  | .matchSlot7 => []
  | .matchSlot8 x => [x]
  | .matchSlot9 x => [x]
  | .matchSlot10 x => [x]
  | .matchSlot11 x => [x]
  | .matchSlot12 x => [x]
  | .matchSlot13 x => [x]
  | .matchSlot14 x => [x]
  | .matchSlot15 x => [x]
  | .matchSlot16 x => [x]
  | .matchSlot17 x => [x]
  | .matchSlot18 x => [x]
  | .matchSlot19 x => [x]
  | .matchSlot20 x => [x]
  | .matchSlot21 x => [x]
  | .matchSlot22 x => [x]
  | .matchSlot23 x => [x]
  | .matchSlot24 x => [x]
  | .matchSlot25 x => [x]
  | .matchSlot26 x => [x]
  | .matchSlot27 x => [x]
  | .matchSlot28 x => [x]
  | .matchSlot29 x => [x]
  | .matchSlot30 x => [x]
  | .matchSlot31 x => [x]
  | .matchSlot32 x => [x]
  | .matchSlot33 x => [x]
  | .matchSlot34 x => [x]
  | .matchSlot35 x => [x]
  | .matchSlot36 x => [x]
  | .matchSlot37 x => [x]
  | .matchSlot38 x => [x]
  | .matchSlot39 x => [x]
  | .matchSlot40 x => [x]
  | .matchSlot41 x => [x]
  | .matchSlot42 x => [x]
  | .matchSlot43 x => [x]
  | .reserved306 => []
  | .reserved307 => []
  | .reserved308 => []
  | .reserved309 => []
  | .reserved310 => []
  | .reserved311 => []
  | .lenSlot0 => []
  | .lenSlot1 => []
  | .lenSlot2 => []
  | .lenSlot3 => []
  | .lenSlot4 => []
  | .lenSlot5 => []
  | .lenSlot6 => []
  | .lenSlot7 => []
  | .lenSlot8 x => [x]
  | .lenSlot9 x => [x]
  | .lenSlot10 x => [x]
  | .lenSlot11 x => [x]
  | .lenSlot12 x => [x]
  | .lenSlot13 x => [x]
  | .lenSlot14 x => [x]
  | .lenSlot15 x => [x]
  | .lenSlot16 x => [x]
  | .lenSlot17 x => [x]
  | .lenSlot18 x => [x]
  | .lenSlot19 x => [x]
  | .lenSlot20 x => [x]
  | .lenSlot21 x => [x]
  | .lenSlot22 x => [x]
  | .lenSlot23 x => [x]
  | .lenSlot24 x => [x]
  | .lenSlot25 x => [x]
  | .lenSlot26 x => [x]
  | .lenSlot27 x => [x]
  | .lenSlot28 x => [x]
  | .lenSlot29 x => [x]
  | .lenSlot30 x => [x]
  | .lenSlot31 x => [x]
  | .lenSlot32 x => [x]
  | .lenSlot33 x => [x]
  | .lenSlot34 x => [x]
  | .lenSlot35 x => [x]
  | .lenSlot36 x => [x]
  | .lenSlot37 x => [x]
  | .lenSlot38 x => [x]
  | .lenSlot39 x => [x]
  | .lenSlot40 x => [x]
  | .lenSlot41 x => [x]
  | .lenSlot42 x => [x]
  | .lenSlot43 x => [x]
  | .distSlot0 => []
  | .distSlot1 => []
  | .distSlot2 => []
  | .distSlot3 => []
  | .distSlot4 low => [low]
  | .distSlot5 low => [low]
  | .distSlot6 low => [low]
  | .distSlot7 low => [low]
  | .distSlot8 low => [low]
  | .distSlot9 low => [low]
  | .distSlot10 lo4 => [lo4]
  | .distSlot11 lo4 => [lo4]
  | .distSlot12 high lo4 => [high, lo4]
  | .distSlot13 high lo4 => [high, lo4]
  | .distSlot14 high lo4 => [high, lo4]
  | .distSlot15 high lo4 => [high, lo4]
  | .distSlot16 high lo4 => [high, lo4]
  | .distSlot17 high lo4 => [high, lo4]
  | .distSlot18 high lo4 => [high, lo4]
  | .distSlot19 high lo4 => [high, lo4]
  | .distSlot20 high lo4 => [high, lo4]
  | .distSlot21 high lo4 => [high, lo4]
  | .distSlot22 high lo4 => [high, lo4]
  | .distSlot23 high lo4 => [high, lo4]
  | .distSlot24 high lo4 => [high, lo4]
  | .distSlot25 high lo4 => [high, lo4]
  | .distSlot26 high lo4 => [high, lo4]
  | .distSlot27 high lo4 => [high, lo4]
  | .distSlot28 high lo4 => [high, lo4]
  | .distSlot29 high lo4 => [high, lo4]
  | .distSlot30 high lo4 => [high, lo4]
  | .distSlot31 high lo4 => [high, lo4]
  | .distSlot32 high lo4 => [high, lo4]
  | .distSlot33 high lo4 => [high, lo4]
  | .distSlot34 high lo4 => [high, lo4]
  | .distSlot35 high lo4 => [high, lo4]
  | .distSlot36 high lo4 => [high, lo4]
  | .distSlot37 high lo4 => [high, lo4]
  | .distSlot38 high lo4 => [high, lo4]
  | .distSlot39 high lo4 => [high, lo4]
  | .distSlot40 high lo4 => [high, lo4]
  | .distSlot41 high lo4 => [high, lo4]
  | .distSlot42 high lo4 => [high, lo4]
  | .distSlot43 high lo4 => [high, lo4]
  | .distSlot44 high lo4 => [high, lo4]
  | .distSlot45 high lo4 => [high, lo4]
  | .distSlot46 high lo4 => [high, lo4]
  | .distSlot47 high lo4 => [high, lo4]
  | .distSlot48 high lo4 => [high, lo4]
  | .distSlot49 high lo4 => [high, lo4]
  | .distSlot50 high lo4 => [high, lo4]
  | .distSlot51 high lo4 => [high, lo4]
  | .distSlot52 high lo4 => [high, lo4]
  | .distSlot53 high lo4 => [high, lo4]
  | .distSlot54 high lo4 => [high, lo4]
  | .distSlot55 high lo4 => [high, lo4]
  | .distSlot56 high lo4 => [high, lo4]
  | .distSlot57 high lo4 => [high, lo4]
  | .distSlot58 high lo4 => [high, lo4]
  | .distSlot59 high lo4 => [high, lo4]
  | .distSlot60 high lo4 => [high, lo4]
  | .distSlot61 high lo4 => [high, lo4]
  | .distSlot62 => []
  | .distSlot63 => []
  | .distSlot64 => []
  | .distSlot65 => []
  | .distSlot66 => []
  | .distSlot67 => []
  | .distSlot68 => []
  | .distSlot69 => []
  | .distSlot70 => []
  | .distSlot71 => []
  | .distSlot72 => []
  | .distSlot73 => []
  | .distSlot74 => []
  | .distSlot75 => []
  | .distSlot76 => []
  | .distSlot77 => []
  | .distSlot78 => []
  | .distSlot79 => []
  | .vu32Sel0 b0 => [b0.toNat]
  | .vu32Sel1 b0 b1 => [b0.toNat, b1.toNat]
  | .vu32Sel2 b0 b1 b2 => [b0.toNat, b1.toNat, b2.toNat]
  | .vu32Sel3 b0 b1 b2 b3 => [b0.toNat, b1.toNat, b2.toNat, b3.toNat]
  | .typeDelta channelsM1 => [channelsM1.toNat]
  | .typeE8 => []
  | .typeE8E9 => []
  | .typeArm => []
  | .type4 => []
  | .type5 => []
  | .type6 => []
  | .type7 => []

/-- The LEVELNIB row of a nibble. -/
def levelNibRow (v : Nat) (ops : List Nat) : Option Instr :=
  match v, ops with
  | 0, [] => some .lvlNib0
  | 1, [] => some .lvlNib1
  | 2, [] => some .lvlNib2
  | 3, [] => some .lvlNib3
  | 4, [] => some .lvlNib4
  | 5, [] => some .lvlNib5
  | 6, [] => some .lvlNib6
  | 7, [] => some .lvlNib7
  | 8, [] => some .lvlNib8
  | 9, [] => some .lvlNib9
  | 10, [] => some .lvlNib10
  | 11, [] => some .lvlNib11
  | 12, [] => some .lvlNib12
  | 13, [] => some .lvlNib13
  | 14, [] => some .lvlNib14
  | 15, [] => some .lvlEsc
  | _, _ => none

/-- The LEVELNIB2 row of a second nibble. -/
def levelNib2Row (v : Nat) (ops : List Nat) : Option Instr :=
  match v, ops with
  | 0, [] => some .lvlNib15
  | 1, [] => some .lvlZrun1
  | 2, [] => some .lvlZrun2
  | 3, [] => some .lvlZrun3
  | 4, [] => some .lvlZrun4
  | 5, [] => some .lvlZrun5
  | 6, [] => some .lvlZrun6
  | 7, [] => some .lvlZrun7
  | 8, [] => some .lvlZrun8
  | 9, [] => some .lvlZrun9
  | 10, [] => some .lvlZrun10
  | 11, [] => some .lvlZrun11
  | 12, [] => some .lvlZrun12
  | 13, [] => some .lvlZrun13
  | 14, [] => some .lvlZrun14
  | 15, [] => some .lvlZrun15
  | _, _ => none

/-- The LEVELSYM row of a level symbol. -/
def levelSymRow (v : Nat) (ops : List Nat) : Option Instr :=
  match v, ops with
  | 0, [] => some .lvLen0
  | 1, [] => some .lvLen1
  | 2, [] => some .lvLen2
  | 3, [] => some .lvLen3
  | 4, [] => some .lvLen4
  | 5, [] => some .lvLen5
  | 6, [] => some .lvLen6
  | 7, [] => some .lvLen7
  | 8, [] => some .lvLen8
  | 9, [] => some .lvLen9
  | 10, [] => some .lvLen10
  | 11, [] => some .lvLen11
  | 12, [] => some .lvLen12
  | 13, [] => some .lvLen13
  | 14, [] => some .lvLen14
  | 15, [] => some .lvLen15
  | 16, [e] => some (.lvRepS e)
  | 17, [e] => some (.lvRepL e)
  | 18, [e] => some (.lvZeroS e)
  | 19, [e] => some (.lvZeroL e)
  | _, _ => none

/-- The MAINSYM row of a main symbol that is no literal. -/
def mainRow (v : Nat) (ops : List Nat) : Option Instr :=
  match v, ops with
  | 256, [] => some .filter
  | 257, [] => some .lastlen
  | 258, [] => some .rep0
  | 259, [] => some .rep1
  | 260, [] => some .rep2
  | 261, [] => some .rep3
  | 262, [] => some .matchSlot0
  | 263, [] => some .matchSlot1
  | 264, [] => some .matchSlot2
  | 265, [] => some .matchSlot3
  | 266, [] => some .matchSlot4
  | 267, [] => some .matchSlot5
  | 268, [] => some .matchSlot6
  | 269, [] => some .matchSlot7
  | 270, [x] => some (.matchSlot8 x)
  | 271, [x] => some (.matchSlot9 x)
  | 272, [x] => some (.matchSlot10 x)
  | 273, [x] => some (.matchSlot11 x)
  | 274, [x] => some (.matchSlot12 x)
  | 275, [x] => some (.matchSlot13 x)
  | 276, [x] => some (.matchSlot14 x)
  | 277, [x] => some (.matchSlot15 x)
  | 278, [x] => some (.matchSlot16 x)
  | 279, [x] => some (.matchSlot17 x)
  | 280, [x] => some (.matchSlot18 x)
  | 281, [x] => some (.matchSlot19 x)
  | 282, [x] => some (.matchSlot20 x)
  | 283, [x] => some (.matchSlot21 x)
  | 284, [x] => some (.matchSlot22 x)
  | 285, [x] => some (.matchSlot23 x)
  | 286, [x] => some (.matchSlot24 x)
  | 287, [x] => some (.matchSlot25 x)
  | 288, [x] => some (.matchSlot26 x)
  | 289, [x] => some (.matchSlot27 x)
  | 290, [x] => some (.matchSlot28 x)
  | 291, [x] => some (.matchSlot29 x)
  | 292, [x] => some (.matchSlot30 x)
  | 293, [x] => some (.matchSlot31 x)
  | 294, [x] => some (.matchSlot32 x)
  | 295, [x] => some (.matchSlot33 x)
  | 296, [x] => some (.matchSlot34 x)
  | 297, [x] => some (.matchSlot35 x)
  | 298, [x] => some (.matchSlot36 x)
  | 299, [x] => some (.matchSlot37 x)
  | 300, [x] => some (.matchSlot38 x)
  | 301, [x] => some (.matchSlot39 x)
  | 302, [x] => some (.matchSlot40 x)
  | 303, [x] => some (.matchSlot41 x)
  | 304, [x] => some (.matchSlot42 x)
  | 305, [x] => some (.matchSlot43 x)
  | 306, [] => some .reserved306
  | 307, [] => some .reserved307
  | 308, [] => some .reserved308
  | 309, [] => some .reserved309
  | 310, [] => some .reserved310
  | 311, [] => some .reserved311
  | _, _ => none

/-- The LENSLOT row of a length slot. -/
def lenSlotRow (v : Nat) (ops : List Nat) : Option Instr :=
  match v, ops with
  | 0, [] => some .lenSlot0
  | 1, [] => some .lenSlot1
  | 2, [] => some .lenSlot2
  | 3, [] => some .lenSlot3
  | 4, [] => some .lenSlot4
  | 5, [] => some .lenSlot5
  | 6, [] => some .lenSlot6
  | 7, [] => some .lenSlot7
  | 8, [x] => some (.lenSlot8 x)
  | 9, [x] => some (.lenSlot9 x)
  | 10, [x] => some (.lenSlot10 x)
  | 11, [x] => some (.lenSlot11 x)
  | 12, [x] => some (.lenSlot12 x)
  | 13, [x] => some (.lenSlot13 x)
  | 14, [x] => some (.lenSlot14 x)
  | 15, [x] => some (.lenSlot15 x)
  | 16, [x] => some (.lenSlot16 x)
  | 17, [x] => some (.lenSlot17 x)
  | 18, [x] => some (.lenSlot18 x)
  | 19, [x] => some (.lenSlot19 x)
  | 20, [x] => some (.lenSlot20 x)
  | 21, [x] => some (.lenSlot21 x)
  | 22, [x] => some (.lenSlot22 x)
  | 23, [x] => some (.lenSlot23 x)
  | 24, [x] => some (.lenSlot24 x)
  | 25, [x] => some (.lenSlot25 x)
  | 26, [x] => some (.lenSlot26 x)
  | 27, [x] => some (.lenSlot27 x)
  | 28, [x] => some (.lenSlot28 x)
  | 29, [x] => some (.lenSlot29 x)
  | 30, [x] => some (.lenSlot30 x)
  | 31, [x] => some (.lenSlot31 x)
  | 32, [x] => some (.lenSlot32 x)
  | 33, [x] => some (.lenSlot33 x)
  | 34, [x] => some (.lenSlot34 x)
  | 35, [x] => some (.lenSlot35 x)
  | 36, [x] => some (.lenSlot36 x)
  | 37, [x] => some (.lenSlot37 x)
  | 38, [x] => some (.lenSlot38 x)
  | 39, [x] => some (.lenSlot39 x)
  | 40, [x] => some (.lenSlot40 x)
  | 41, [x] => some (.lenSlot41 x)
  | 42, [x] => some (.lenSlot42 x)
  | 43, [x] => some (.lenSlot43 x)
  | _, _ => none

/-- The DISTSLOT row of a distance slot. -/
def distSlotRow (v : Nat) (ops : List Nat) : Option Instr :=
  match v, ops with
  | 0, [] => some .distSlot0
  | 1, [] => some .distSlot1
  | 2, [] => some .distSlot2
  | 3, [] => some .distSlot3
  | 4, [low] => some (.distSlot4 low)
  | 5, [low] => some (.distSlot5 low)
  | 6, [low] => some (.distSlot6 low)
  | 7, [low] => some (.distSlot7 low)
  | 8, [low] => some (.distSlot8 low)
  | 9, [low] => some (.distSlot9 low)
  | 10, [lo4] => some (.distSlot10 lo4)
  | 11, [lo4] => some (.distSlot11 lo4)
  | 12, [high, lo4] => some (.distSlot12 high lo4)
  | 13, [high, lo4] => some (.distSlot13 high lo4)
  | 14, [high, lo4] => some (.distSlot14 high lo4)
  | 15, [high, lo4] => some (.distSlot15 high lo4)
  | 16, [high, lo4] => some (.distSlot16 high lo4)
  | 17, [high, lo4] => some (.distSlot17 high lo4)
  | 18, [high, lo4] => some (.distSlot18 high lo4)
  | 19, [high, lo4] => some (.distSlot19 high lo4)
  | 20, [high, lo4] => some (.distSlot20 high lo4)
  | 21, [high, lo4] => some (.distSlot21 high lo4)
  | 22, [high, lo4] => some (.distSlot22 high lo4)
  | 23, [high, lo4] => some (.distSlot23 high lo4)
  | 24, [high, lo4] => some (.distSlot24 high lo4)
  | 25, [high, lo4] => some (.distSlot25 high lo4)
  | 26, [high, lo4] => some (.distSlot26 high lo4)
  | 27, [high, lo4] => some (.distSlot27 high lo4)
  | 28, [high, lo4] => some (.distSlot28 high lo4)
  | 29, [high, lo4] => some (.distSlot29 high lo4)
  | 30, [high, lo4] => some (.distSlot30 high lo4)
  | 31, [high, lo4] => some (.distSlot31 high lo4)
  | 32, [high, lo4] => some (.distSlot32 high lo4)
  | 33, [high, lo4] => some (.distSlot33 high lo4)
  | 34, [high, lo4] => some (.distSlot34 high lo4)
  | 35, [high, lo4] => some (.distSlot35 high lo4)
  | 36, [high, lo4] => some (.distSlot36 high lo4)
  | 37, [high, lo4] => some (.distSlot37 high lo4)
  | 38, [high, lo4] => some (.distSlot38 high lo4)
  | 39, [high, lo4] => some (.distSlot39 high lo4)
  | 40, [high, lo4] => some (.distSlot40 high lo4)
  | 41, [high, lo4] => some (.distSlot41 high lo4)
  | 42, [high, lo4] => some (.distSlot42 high lo4)
  | 43, [high, lo4] => some (.distSlot43 high lo4)
  | 44, [high, lo4] => some (.distSlot44 high lo4)
  | 45, [high, lo4] => some (.distSlot45 high lo4)
  | 46, [high, lo4] => some (.distSlot46 high lo4)
  | 47, [high, lo4] => some (.distSlot47 high lo4)
  | 48, [high, lo4] => some (.distSlot48 high lo4)
  | 49, [high, lo4] => some (.distSlot49 high lo4)
  | 50, [high, lo4] => some (.distSlot50 high lo4)
  | 51, [high, lo4] => some (.distSlot51 high lo4)
  | 52, [high, lo4] => some (.distSlot52 high lo4)
  | 53, [high, lo4] => some (.distSlot53 high lo4)
  | 54, [high, lo4] => some (.distSlot54 high lo4)
  | 55, [high, lo4] => some (.distSlot55 high lo4)
  | 56, [high, lo4] => some (.distSlot56 high lo4)
  | 57, [high, lo4] => some (.distSlot57 high lo4)
  | 58, [high, lo4] => some (.distSlot58 high lo4)
  | 59, [high, lo4] => some (.distSlot59 high lo4)
  | 60, [high, lo4] => some (.distSlot60 high lo4)
  | 61, [high, lo4] => some (.distSlot61 high lo4)
  | 62, [] => some .distSlot62
  | 63, [] => some .distSlot63
  | 64, [] => some .distSlot64
  | 65, [] => some .distSlot65
  | 66, [] => some .distSlot66
  | 67, [] => some .distSlot67
  | 68, [] => some .distSlot68
  | 69, [] => some .distSlot69
  | 70, [] => some .distSlot70
  | 71, [] => some .distSlot71
  | 72, [] => some .distSlot72
  | 73, [] => some .distSlot73
  | 74, [] => some .distSlot74
  | 75, [] => some .distSlot75
  | 76, [] => some .distSlot76
  | 77, [] => some .distSlot77
  | 78, [] => some .distSlot78
  | 79, [] => some .distSlot79
  | _, _ => none

/-- The VUSEL row of a selector. -/
def vuRow (v : Nat) (ops : List Nat) : Option Instr :=
  match v, ops with
  | 0, [b0] => some (.vu32Sel0 (BitVec.ofNat 8 b0))
  | 1, [b0, b1] => some (.vu32Sel1 (BitVec.ofNat 8 b0) (BitVec.ofNat 8 b1))
  | 2, [b0, b1, b2] => some (.vu32Sel2 (BitVec.ofNat 8 b0) (BitVec.ofNat 8 b1) (BitVec.ofNat 8 b2))
  | 3, [b0, b1, b2, b3] => some (.vu32Sel3 (BitVec.ofNat 8 b0) (BitVec.ofNat 8 b1) (BitVec.ofNat 8 b2) (BitVec.ofNat 8 b3))
  | _, _ => none

/-- The FILTERTYPE row of a row number: DELTA, E8, E8E9, ARM, and the codes that name no filter (R117). -/
def filterTypeRow (r : Nat) (ops : List Nat) : Option Instr :=
  match r, ops with
  | 0, [ch] => some (.typeDelta (BitVec.ofNat 5 ch))
  | 1, [] => some .typeE8
  | 2, [] => some .typeE8E9
  | 3, [] => some .typeArm
  | 4, [] => some .type4
  | 5, [] => some .type5
  | 6, [] => some .type6
  | 7, [] => some .type7
  | _, _ => none

/-- The instruction of a format, a table value and the operand values that follow it; none where the table has no such row. -/
def ofRow (f : Format) (v : Nat) (ops : List Nat) : Option Instr :=
  match f with
  | .levelNib => levelNibRow v ops
  | .levelNib2 => levelNib2Row v ops
  | .levelSym => levelSymRow v ops
  | .mainSym => if v < 256 then (if ops = [] then some (.lit (BitVec.ofNat 8 v)) else none) else mainRow v ops
  | .lenSlot => lenSlotRow v ops
  | .distSlot => distSlotRow v ops
  | .vuSel => vuRow v ops
  | .filterType => filterTypeRow v ops
  | .props => none
  | .blockFlags => none

open Operands in
/-- The fields that follow table value `v` of a format (R106, R111, R112, R115, R116). -/
def fieldsOf (P : Config.Params) (f : Format) (v : Nat) : List Field :=
  match f with
  | .levelSym => levelFields P v
  | .mainSym => mainFields v
  | .lenSlot => lenFields v
  | .distSlot => distFields v
  | .vuSel => vuFields v
  | .filterType => filterFields v
  | .levelNib => []
  | .levelNib2 => []
  | .props => []
  | .blockFlags => []

end Sys2Proof
end

