-- ==== Sys2Proof/WellFormed.lean ====
section
/-! DEFINITION. Which instructions exist: every operand fits the field the table gives it. -/

namespace Sys2Proof

open Operands (Field)

/-- The value fits the field: `n` raw bits hold less than 2^n, the low four bits of a distance less than 16
(an align symbol is one of 0 to 15, R112). -/
def Operands.Field.holds : Field → Nat → Bool
  | .raw n, v => decide (v < 2 ^ n)
  | .low4, v => decide (v < 16)

/-- Every value fits its field, and there are as many values as fields. -/
def fieldsHold : List Field → List Nat → Bool
  | [], [] => true
  | f :: fs, v :: vs => f.holds v && fieldsHold fs vs
  | _, _ => false

/-- A well-formed instruction: the one check, over every operand whose width its constructor's type does not fix. The parameters
say how many extra bits a level symbol has (R106); where none are named they are R12's defaults. -/
def Instr.wellFormed (i : Instr) (P : Config.Params := Config.params) : Bool :=
  fieldsHold (fieldsOf P i.format i.symbol) i.operands

end Sys2Proof
end

