-- ==== Sys2Proof/Decode.lean ====
section
/-! DEFINITION. Decoding, total on every stream, and the encoder after it (30_encoding.md).

What a stream's bits mean depends on what comes next (R125): the format, the code of the symbol, and how the low four
bits of a distance are coded. `DecodeCtx` is that context; the machine reads it off its state. -/

namespace Sys2Proof

open Operands (Field)

/-- The context a stream is decoded in (R125): what comes next, the decoder whose code words carry its symbol (for the
Huffman-coded formats, R108), the align decoder when `useAlignBits` is set (R112), and the parameters of R12, which are the
defaults where none are named. -/
structure DecodeCtx where
  fmt : Format
  sym : Huff
  align : Option Huff
  params : Config.Params := Config.params
deriving DecidableEq, Repr

/-- Why a stream is no instruction. -/
inductive Reject where
  /-- a Huffman-coded field whose decoder has no symbols (R120, R180) -/
  | emptyDecoder
  /-- a 15-bit value that no code covers (R180): only a partial code has one, and no rule builds one -/
  | noCode
  /-- a value the table has no row for: a symbol above its alphabet, which cannot be decoded (R132) -/
  | noRow
deriving DecidableEq, Repr

/-- The decoder's answer: an instruction and the number of bits it takes, or a rejection by name and the number of bits
read before it. -/
inductive Decoded where
  | ok (i : Instr) (bits : Nat)
  | rejected (r : Reject) (bits : Nat)
deriving DecidableEq, Repr

/-- The rejection a Huffman decoder's answer stands for. -/
def HuffReject.toReject : HuffReject → Reject
  | .empty => .emptyDecoder
  | .noCode => .noCode

/-- One Huffman symbol from the stream: its value and the bits it takes (R178). -/
def readSymbol (H : Huff) (bits : List Bool) : Except Reject (Nat × Nat) :=
  match H.decodeBits bits with
  | .ok r => .ok r
  | .error e => .error e.toReject

/-- The table value that opens a field of the context's format, and the bits it takes (R132): a raw field, the row of a raw type
code (R117), or a symbol. -/
def readValue (c : DecodeCtx) (bits : List Bool) : Except Reject (Nat × Nat) :=
  match c.fmt with
  | .levelNib => .ok (bitsValue 4 bits, 4)
  | .levelNib2 => .ok (bitsValue 4 bits, 4)
  | .vuSel => .ok (bitsValue 2 bits, 2)
  | .filterType => .ok (Operands.codeRow c.params (bitsValue 3 bits), 3)
  | .levelSym => readSymbol c.sym bits
  | .mainSym => readSymbol c.sym bits
  | .lenSlot => readSymbol c.sym bits
  | .distSlot => readSymbol c.sym bits
  | .props => .error .noRow
  | .blockFlags => .error .noRow

/-- One field that follows a table value. The low four bits of a distance are an align symbol or four raw bits (R234). -/
def readField (c : DecodeCtx) (f : Field) (bits : List Bool) : Except Reject (Nat × Nat) :=
  match f with
  | .raw n => .ok (bitsValue n bits, n)
  | .low4 => match c.align with
    | none => .ok (bitsValue 4 bits, 4)
    | some H => readSymbol H bits

/-- The fields that follow a table value, in stream order, and the bits they take together; or a rejection and the bits of the
fields before it. -/
def readFields (c : DecodeCtx) : List Field → List Bool → Except (Reject × Nat) (List Nat × Nat)
  | [], _ => .ok ([], 0)
  | f :: fs, bits => match readField c f bits with
    | .error r => .error (r, 0)
    | .ok (v, n) => match readFields c fs (bits.drop n) with
      | .error (r, m) => .error (r, n + m)
      | .ok (vs, m) => .ok (v :: vs, n + m)

/-- The property bytes as an instruction (R101). -/
def decodeProps (w : BitVec 16) : Instr :=
  .props (w.extractLsb' 13 3) (w.extractLsb' 8 5) (w.extractLsb' 3 5) (w.getLsbD 2) (w.getLsbD 1) (w.getLsbD 0)

/-- The byte at bit `k` of a stream. -/
def byteAt (k : Nat) (bits : List Bool) : Byte := BitVec.ofNat 8 (bitsValue 8 (bits.drop k))

/-- The block header (R102, R103): `num` says how many size bytes follow; with `num = 3` none is read (R194). -/
def decodeHeader (bits : List Bool) : Decoded :=
  let flags := byteAt 0 bits
  let b7m1 := flags.extractLsb' 0 3
  let r5 := flags.getLsbD 5
  let last := flags.getLsbD 6
  let tables := flags.getLsbD 7
  let cx := byteAt 8 bits
  match Operands.headerNum flags with
  | 0 => .ok (.blkhdr0 b7m1 r5 last tables cx (byteAt 16 bits)) 24
  | 1 => .ok (.blkhdr1 b7m1 r5 last tables cx (byteAt 16 bits) (byteAt 24 bits)) 32
  | 2 => .ok (.blkhdr2 b7m1 r5 last tables cx (byteAt 16 bits) (byteAt 24 bits) (byteAt 32 bits)) 40
  | _ => .ok (.blkhdrNum3 b7m1 r5 last tables cx) 16

/-- A table value and the fields after it (R132), `n` bits into the element. -/
def decodeRow (c : DecodeCtx) (v n : Nat) (rest : List Bool) : Decoded :=
  match readFields c (fieldsOf c.params c.fmt v) rest with
  | .error (r, m) => .rejected r (n + m)
  | .ok (ops, m) => match ofRow c.fmt v ops with
    | some i => .ok i (n + m)
    | none => .rejected .noRow (n + m)

/-- THE DECODER: the instruction a stream begins with, in a context. -/
def decode (c : DecodeCtx) (bits : List Bool) : Decoded :=
  match c.fmt with
  | .props => .ok (decodeProps (BitVec.ofNat 16 (bitsValue 16 bits))) 16
  | .blockFlags => decodeHeader bits
  | _ => match readValue c bits with
    | .error r => .rejected r 0
    | .ok (v, n) => decodeRow c v n (bits.drop n)

/-! The encoder: the bits of an instruction, from the same tables. -/

/-- The eight bits of a byte, most significant first (R15). -/
def byteBits (b : Byte) : List Bool := toBits 8 b.toNat

/-- The bits of a header with the given flags byte, checksum byte and size bytes (R102). -/
def headerBits (flags cx : Byte) (size : List Byte) : List Bool := (flags :: cx :: size).flatMap byteBits

/-- The bits of a table value in its format: the raw field, the raw code of a type's row, or the symbol's code word (R108). -/
def valueBits (c : DecodeCtx) (v : Nat) : List Bool :=
  match c.fmt with
  | .levelNib => toBits 4 v
  | .levelNib2 => toBits 4 v
  | .vuSel => toBits 2 v
  | .filterType => toBits 3 (Operands.rowCode c.params v)
  | .levelSym => c.sym.codeBits v
  | .mainSym => c.sym.codeBits v
  | .lenSlot => c.sym.codeBits v
  | .distSlot => c.sym.codeBits v
  | .props => []
  | .blockFlags => []

/-- The bits of one field after a table value. -/
def fieldBits (c : DecodeCtx) (f : Field) (v : Nat) : List Bool :=
  match f with
  | .raw n => toBits n v
  | .low4 => match c.align with
    | none => toBits 4 v
    | some H => H.codeBits v

/-- The bits of the fields after a table value, in stream order. -/
def fieldsBits (c : DecodeCtx) : List Field → List Nat → List Bool
  | f :: fs, v :: vs => fieldBits c f v ++ fieldsBits c fs vs
  | _, _ => []

/-- THE ENCODER: the bits of an instruction in a context of its format. -/
def encode (c : DecodeCtx) (i : Instr) : List Bool :=
  match i with
  | .props r0 pow frac r1 v7 solid => toBits 16 (Operands.propsWord r0 pow frac r1 v7 solid).toNat
  | .blkhdr0 b7m1 r5 last tables cx s0 => headerBits (Operands.headerFlags b7m1 0 r5 last tables) cx [s0]
  | .blkhdr1 b7m1 r5 last tables cx s0 s1 => headerBits (Operands.headerFlags b7m1 1 r5 last tables) cx [s0, s1]
  | .blkhdr2 b7m1 r5 last tables cx s0 s1 s2 => headerBits (Operands.headerFlags b7m1 2 r5 last tables) cx [s0, s1, s2]
  | .blkhdrNum3 b7m1 r5 last tables cx => headerBits (Operands.headerFlags b7m1 3 r5 last tables) cx []
  | i => valueBits c i.symbol ++ fieldsBits c (fieldsOf c.params i.format i.symbol) i.operands

/-! One row's word by itself. A table word carries no format, and the formats' values overlap, so a format has to be
chosen for it (log 17); for a Huffman-coded format a code has to be given in which the symbol has a code word. -/

/-- The format a table word of `nbits` bits is read in. DESIGN CHOICE (log 17). -/
def tableFormat (nbits w : Nat) : Format :=
  if nbits ≤ 8 then
    let v := w % 128
    if v < 32 ∧ v % 8 = 0 then .blockFlags
    else if v < 4 then .vuSel
    else if v < 8 then .filterType
    else if v < 12 then .levelNib
    else if v < 16 then .levelNib2
    else if v < 20 then .levelSym
    else if v < 44 then .lenSlot
    else if v < 80 then .distSlot
    else .blockFlags
  else if 16 < nbits ∧ 62 ≤ w % 512 ∧ w % 512 < 66 then .distSlot
  else if 8 ≤ w % 512 ∧ w % 512 < 16 then .lenSlot
  else if w % 512 < 312 then .mainSym
  else .props

/-- The table value of a word in its format: the field's bits of it. -/
def tableValue (f : Format) (w : Nat) : Nat :=
  match f with
  | .props => w % 2 ^ 16
  | .blockFlags => w % 2 ^ 8
  | .levelNib => w % 2 ^ 4
  | .levelNib2 => w % 2 ^ 4
  | .levelSym => w % 2 ^ 5
  | .mainSym => w % 2 ^ 9
  | .lenSlot => w % 2 ^ 6
  | .distSlot => w % 2 ^ 7
  | .vuSel => w % 2 ^ 2
  | .filterType => w % 2 ^ 3

/-- The alphabet size of a Huffman-coded format (R170). -/
def alphabetSize (P : Config.Params) : Format → Nat
  | .levelSym => Config.levelSize
  | .mainSym => P.mainSize
  | .lenSlot => Config.lenSize
  | .distSlot => Config.distSizeV7
  | _ => 0

/-- The smallest non-empty code (R173) in which symbol `v` of an alphabet of `n` symbols has a code word: `v` and one other symbol,
one bit each. -/
def pairCode (F n v : Nat) : Huff :=
  Huff.ofLens F ((List.range n).map fun s => if s = v ∨ s = (if v = 0 then 1 else 0) then 1 else 0)

/-- The context a table word is read in: its format, and the code of `pairCode` for its symbol. -/
def tableCtx (P : Config.Params) (nbits w : Nat) : DecodeCtx :=
  let f := tableFormat nbits w
  { fmt := f, sym := pairCode 0 (alphabetSize P f) (tableValue f w), align := none, params := P }

/-- The stream of a table word: its field's bits, or its symbol's code word, and then zeros. -/
def tableBits (P : Config.Params) (nbits w : Nat) : List Bool :=
  let c := tableCtx P nbits w
  let v := tableValue c.fmt w
  (match c.fmt with
    | .props => toBits 16 v
    | .blockFlags => toBits 8 v
    | .filterType => toBits 3 v
    | _ => valueBits c v) ++ List.replicate 120 false

/-- The instruction the decoder reads from a table word, every bit above it zero, at R12's defaults. -/
def decodeTableWord (nbits w : Nat) : Option Instr :=
  match decode (tableCtx Config.params nbits w) (tableBits Config.params nbits w) with
  | .ok i _ => some i
  | .rejected _ _ => none

end Sys2Proof
end

