-- ==== Sys2Proof/Machine/State.lean ====
section
/-! DEFINITION. The machine's state as plain data (10_state.md), its ports (00_scope.md R8), the reasons a step can stop,
and the state after power-on (R370). -/

namespace Sys2Proof.Machine

/-- Why the machine stops with a fault. No run from `State.reset` meets one (log 8, log 9). -/
inductive Fault where
  /-- Raised by a read of a window byte that nothing has written since the window was obtained: the spec gives it any
  value (93 part 2, R80). Safe: the machine stops where the hardware would read some byte. -/
  | unwrittenWindowByte
  /-- Raised by a write at a window index the window does not have (R73). Safe: no such address exists. -/
  | windowIndexOutOfRange
deriving DecidableEq, Repr

/-- Why a step has no meaning. -/
inductive Refusal where
  /-- Raised by `exec` for an instruction that has no meaning yet. Safe: nothing is claimed of it. -/
  | notModelled (mnemonic : String)
  /-- Raised by the fetch of a Huffman symbol that no code of a partial code covers: the spec's `refuse` (R180). Safe. -/
  | noCode
  /-- Raised by the fetch of a symbol above its alphabet, which the spec says cannot be decoded (R132). Safe. -/
  | noRow
  /-- Raised by PROPS when a file that continues a solid chain declares another window size: the spec's `refuse` (R293). Safe. -/
  | windowSizeChange
deriving DecidableEq, Repr

/-- The five error kinds of R331. -/
inductive ErrorKind where
  | corruptedData
  | unsupportedFilter
  | minorError
  | io
  | outOfMemory
deriving DecidableEq, Repr

/-- The result of a `decode` (R330). -/
inductive Result where
  | ok
  | error (k : ErrorKind)
deriving DecidableEq, Repr

/-- The environment's source for one file (R9, R71): the bytes it delivers before EOF and, if it is to answer a pull
with an I/O error, the byte offset from which a `prepare` meets it (log 5). -/
structure Source where
  bytes : List Byte
  ioAt : Option Nat
deriving DecidableEq, Repr

/-- The environment's sink for one file (R77): the bytes it has taken and, if it is to answer a push with an I/O
error, how many bytes it takes before that (log 6). -/
structure Sink where
  bytes : List Byte
  ioAt : Option Nat
deriving DecidableEq, Repr

/-- What a `decode` call brings (R7, R9): the property bytes (byte 0 in bits 15:8), the declared size, a source and a sink; and
what the environment answers to the two allocations of per-file setup (R334, log 7). -/
structure DecodeArgs where
  props : BitVec 16
  unpackedSize : Option (BitVec 64)
  src : Source
  snkIoAt : Option Nat
  windowAvail : Bool
  filterAvail : Bool
deriving DecidableEq, Repr

/-- The calls of CTRL (R8, R372). -/
inductive Command where
  | reset
  | decode (args : DecodeArgs)
deriving DecidableEq, Repr

/-- The repetition registers (R21). -/
structure RepDist where
  r0 : Word32
  r1 : Word32
  r2 : Word32
  r3 : Word32
deriving DecidableEq, Repr

/-- A pending filter (R47). -/
structure FilterEntry where
  startPos : Nat
  size : Nat
  type : BitVec 3
  channels : Nat
deriving DecidableEq, Repr

/-- What comes next: the control state that the pseudocode of R191, R200, R222, R263 and R300 leaves implicit (log 2). -/
inductive Phase where
  /-- between transactions: a call on CTRL -/
  | idle
  /-- in the symbol loop: the tests of R222, then a main symbol -/
  | symbols
  /-- a block header (R191) -/
  | header
  /-- a level nibble (R201), or the end of the level lengths -/
  | levelNib
  /-- the nibble after a 15 (R201) -/
  | levelNib2
  /-- a level symbol (R203), or the end of the table set -/
  | levelSym
  /-- the length of a REPk (R240) -/
  | lenSlot
  /-- the distance of a MATCH (R244) -/
  | distSlot
  /-- the `startPosDelta` of a filter descriptor (R263) -/
  | vuDelta
  /-- the `size` of a filter descriptor (R263) -/
  | vuSize
  /-- the `type` of a filter descriptor (R263) -/
  | filterType
deriving DecidableEq, Repr

/-- Bytes by address, addresses strictly rising; an address not listed holds no value (log 8). -/
abbrev Memory := List Host.Cell

/-- The state of one decoder instance and of its ports. -/
structure State where
  /-- the parameters the machine is built with (R12): an argument of everything it does, which no step writes (log 14) -/
  params : Config.Params
  /-- what comes next (log 2) -/
  phase : Phase
  /-- the calls the caller makes on CTRL, in order (log 1) -/
  ctrl : List Command
  /-- the arguments of the `decode` call being accepted (R7) -/
  port : DecodeArgs
  /-- the results reported on STATUS, oldest first (R8, log 18) -/
  status : List Result
  /-- the current file's source -/
  src : Source
  /-- the current file's sink -/
  snk : Sink
  /-- R21 -/
  repDist : RepDist
  /-- R22 -/
  lastLength : Nat
  /-- R23 -/
  windowPos : Nat
  /-- R24 -/
  lzSize : Nat
  /-- R24 -/
  lzEnd : Nat
  /-- R24 -/
  lzWritten : Nat
  /-- R24 -/
  lzFileStart : Nat
  /-- R25 -/
  limit : Nat
  /-- R26 -/
  windowSize : Nat
  /-- R26 -/
  dictSizeForCheck : Nat
  /-- the input bit position, 8·byteOff + bitPos (R31) -/
  pc : Nat
  /-- R32 -/
  blockEnd : Nat
  /-- R32 -/
  blockEndBits7 : Nat
  /-- R33 -/
  minorError : Bool
  /-- R34 -/
  isUnsupportedFilter : Bool
  /-- R35 -/
  isLastBlock : Bool
  /-- R36 -/
  useAlignBits : Bool
  /-- R37 -/
  tablesFilled : Bool
  /-- R38 -/
  wasFinished : Bool
  /-- R39 -/
  chainValid : Bool
  /-- the property register (R40) -/
  props : BitVec 16
  /-- the block-header latch (R41) -/
  hdrFlags : Byte
  /-- R42 -/
  unpackedSize : BitVec 64
  /-- R42 -/
  sizeDefined : Bool
  /-- R42 -/
  writtenFileSize : Nat
  /-- the Huffman table set (R45) -/
  huff : HuffSet
  /-- the level decoder (R46) -/
  level : Huff
  /-- the level lengths defined so far (R201) -/
  lv : List Nat
  /-- the table lengths defined so far (R203) -/
  tbl : List Nat
  /-- the length a MATCH has decoded (R244's `len`) -/
  pendLen : Nat
  /-- the `startPosDelta` of the descriptor being read (R263) -/
  fltDelta : Word32
  /-- the `size` of the descriptor being read (R263) -/
  fltSize : Word32
  /-- the pending-filter queue (R47) -/
  queue : List FilterEntry
  /-- R47 -/
  filterEnd : Nat
  /-- the filled part of the filter buffer (R48); its length is `fbFill` -/
  fb : List Byte
  /-- the sliding window by window index (R72) -/
  window : Memory
  /-- which free value comes next (log 12) -/
  freeCount : Nat
deriving DecidableEq, Repr

/-- `fbFill` of R48. -/
def State.fbFill (s : State) : Nat := s.fb.length

/-- `srcLen` of R38: how many bytes the source delivers. -/
def State.srcLen (s : State) : Nat := s.src.bytes.length

/-- The decode arguments of a port that no call has used. DESIGN CHOICE (log 13). -/
def DecodeArgs.none : DecodeArgs where
  props := 0
  unpackedSize := Option.none
  src := { bytes := [], ioAt := Option.none }
  snkIoAt := Option.none
  windowAvail := true
  filterAvail := true

/-- The repetition registers after a full reset (R21, R371). -/
def RepDist.reset : RepDist := ⟨Config.repSentinel, Config.repSentinel, Config.repSentinel, Config.repSentinel⟩

/-- The four decoders after a full reset: all empty (R45, R371). -/
def HuffSet.reset (P : Config.Params) : HuffSet where
  main := Huff.emptyOf Config.fastMain P.mainSize
  dist := Huff.emptyOf Config.fastDist Config.distSizeV7
  align := Huff.emptyOf Config.fastAlign Config.alignSize
  len := Huff.emptyOf Config.fastLen Config.lenSize

/-- Power-on (R370) of a machine built with the parameters `P` (R12): what a full reset leaves, `chainValid = 0`, no window. The
values the spec does not state are log 13's. -/
def State.powerOn (P : Config.Params) : State where
  params := P
  phase := .idle
  ctrl := []
  port := DecodeArgs.none
  status := []
  src := { bytes := [], ioAt := none }
  snk := { bytes := [], ioAt := none }
  repDist := RepDist.reset
  lastLength := 0
  windowPos := 0
  lzSize := 0
  lzEnd := 0
  lzWritten := 0
  lzFileStart := 0
  limit := 0
  windowSize := 0
  dictSizeForCheck := 0
  pc := 0
  blockEnd := 0
  blockEndBits7 := 0
  minorError := false
  isUnsupportedFilter := false
  isLastBlock := false
  useAlignBits := false
  tablesFilled := false
  wasFinished := false
  chainValid := false
  props := 0
  hdrFlags := 0
  unpackedSize := 0
  sizeDefined := false
  writtenFileSize := 0
  huff := HuffSet.reset P
  level := Huff.emptyOf Config.fastLevel Config.levelSize
  lv := []
  tbl := []
  pendLen := 0
  fltDelta := 0
  fltSize := 0
  queue := []
  filterEnd := 0
  fb := []
  window := []
  freeCount := 0

/-- Power-on of the machine with R12's defaults. -/
def State.reset : State := State.powerOn Config.params

end Sys2Proof.Machine
end

