-- ==== Sys2Proof/Machine/Filters.lean ====
section
/-! DEFINITION. The post-filter transforms on the collected region (44_filters.md R270 to R275), as functions on its bytes. -/

namespace Sys2Proof.Machine

/-- One channel of DELTA from destination index `i` on (R271): each source byte is taken from the running value, which
is stored, every `step` bytes. `fuel` bounds the turns. It answers the unused source and the destination. -/
def deltaChannel (step : Nat) : Nat → Nat → Byte → List Byte → List Byte → List Byte × List Byte
  | 0, _, _, src, dst => (src, dst)
  | fuel + 1, i, prev, src, dst =>
    if i < dst.length then
      let prev := prev - src.headD 0
      deltaChannel step fuel (i + step) prev src.tail (dst.set i prev)
    else (src, dst)

/-- The channels of DELTA from channel `c` on (R271); `srcIdx` runs on from one to the next. -/
def deltaChannels (channels : Nat) : Nat → Nat → List Byte → List Byte → List Byte
  | 0, _, _, dst => dst
  | left + 1, c, src, dst =>
    let r := deltaChannel channels dst.length c 0 src dst
    deltaChannels channels left (c + 1) r.1 r.2

/-- DELTA (R271): `channels` interleaved streams, each the running negated sum of its part of the source. -/
def deltaFilter (channels : Nat) (data : List Byte) : List Byte :=
  deltaChannels channels channels 0 data (List.replicate data.length 0)

/-- The rewritten operand of a matched x86 opcode at region index `i` (R272). -/
def e8Operand (fileOffset i : Nat) (addr : Word32) : Word32 :=
  let off := (i + 1 + fileOffset) % Config.e8FileSize
  if addr.toNat < Config.e8FileSize then addr - BitVec.ofNat 32 off
  else if addr.toNat ≥ 2 ^ 32 - off then addr + BitVec.ofNat 32 Config.e8FileSize
  else addr

/-- The region's byte `op` at index `i`, with the bytes after it, is an opcode to rewrite: its four operand bytes lie in the
region (`i + 4 < size`) and its value is 0xE8 or, for E8E9, 0xE9 (R272, R273). The answer is the rewritten operand. -/
def e8Match (e9 : Bool) (fileOffset i : Nat) (op : Byte) (after : List Byte) : Option (List Byte) :=
  match after with
  | b0 :: b1 :: b2 :: b3 :: _ =>
    if op = 0xE8 ∨ (e9 = true ∧ op = 0xE9) then some (writeLe32 (e8Operand fileOffset i (readLe32 b0 b1 b2 b3))) else none
  | _ => none

/-- E8 and, with `e9`, E8E9 (R272, R273), from region index `i` on. `operand` holds the bytes still to come of an operand that
a matched opcode has rewritten: they replace the region's and are not examined, so a match advances by 5, any other byte by 1. -/
def e8Filter (e9 : Bool) (fileOffset : Nat) : List Byte → Nat → List Byte → List Byte
  | _, _, [] => []
  | b :: operand, i, _ :: rest => b :: e8Filter e9 fileOffset operand (i + 1) rest
  | [], i, op :: rest => op :: e8Filter e9 fileOffset ((e8Match e9 fileOffset i op rest).getD []) (i + 1) rest

/-- The rewritten instruction word at region index `i` (R274): the low 24 bits less the word's offset. -/
def armWord (fileOffset i : Nat) (instr : Word32) : Word32 :=
  (instr &&& 0xFF000000) ||| ((instr - BitVec.ofNat 32 ((fileOffset + i) >>> 2)) &&& 0x00FFFFFF)

/-- ARM (R274), from region index `i` on: whole groups of four bytes whose last is 0xEB; the rest passes. -/
def armFilter (fileOffset : Nat) : Nat → List Byte → List Byte
  | i, a :: b :: c :: d :: rest =>
    (if d = 0xEB then writeLe32 (armWord fileOffset i (readLe32 a b c d)) else [a, b, c, d]) ++
      armFilter fileOffset (i + 4) rest
  | _, rest => rest

/-- The bytes `ApplyFilter` hands to the sink (R270): the transform of the type, zeros for a type that names none (R275). -/
def applyFilter (P : Config.Params) (f : FilterEntry) (fileOffset : Nat) (data : List Byte) : List Byte :=
  if f.type.toNat = P.typeDelta then deltaFilter f.channels data
  else if f.type.toNat = P.typeE8 then e8Filter false fileOffset [] 0 data
  else if f.type.toNat = P.typeE8E9 then e8Filter true fileOffset [] 0 data
  else if f.type.toNat = P.typeArm then armFilter fileOffset 0 data
  else List.replicate data.length 0

end Sys2Proof.Machine
end

