-- ==== Sys2Proof/Machine/Flags.lean ====
section
/-! DEFINITION. Every flag and predicate computed from the state: the position predicates of the bit reader
(40_bitreader.md R148 to R151), the flag rules of R150, R196, R206, and the tests of R222, R292, R305. -/

namespace Sys2Proof.Machine

/-- `SrcByte(i)` of R71: the source's byte, and 0xFF past its end. -/
def State.srcByte (s : State) (i : Nat) : Byte := s.src.bytes.getD i 0xFF

/-- `bit(p)` of R143: stream bit number `p`. -/
def State.bitAt (s : State) (p : Nat) : Bool := (s.srcByte (p >>> 3)).getLsbD (7 - (p &&& 7))

/-- The next `n` stream bits (R143). -/
def State.streamBits (s : State) (n : Nat) : List Bool := (List.range n).map fun j => s.bitAt (s.pc + j)

/-- `byteOff` of R31, which `getProcessedSizeRound` exposes (R148). -/
def State.byteOff (s : State) : Nat := s.pc >>> 3

/-- `bitPos` of R31, which `getProcessedBits7` exposes (R148). -/
def State.bitPos (s : State) : Nat := s.pc &&& 7

/-- The bit position at which the current block ends (R32). -/
def State.blockEndPos (s : State) : Nat := 8 * s.blockEnd + s.blockEndBits7

/-- `isBlockOverRead()` of R149. -/
def State.isBlockOverRead (s : State) : Bool := decide (s.pc > s.blockEndPos)

/-- `atBlockEnd()` of R149. -/
def State.atBlockEnd (s : State) : Bool := decide (s.pc ≥ s.blockEndPos)

/-- `inputEofError` of R38 and R151. -/
def State.inputEofError (s : State) : Bool := s.wasFinished && decide (s.pc > 8 * s.srcLen)

/-- The table over-read test of R207. -/
def State.tableOverRead (s : State) : Bool := s.isBlockOverRead || s.inputEofError

/-- A bit that `alignToByte` discards is 1 (R150). -/
def State.padNonZero (s : State) : Bool := decide ((s.srcByte s.byteOff).toNat <<< s.bitPos &&& 0xFF ≠ 0)

/-- `useAlignBits` of R206: set unless every align length is 4. -/
def usesAlignBits (align : List Nat) : Bool := align.any fun l => decide (l ≠ 4)

/-- The LZ coordinate of the next byte to be produced (R74). -/
def State.total (s : State) : Nat := s.lzSize + s.windowPos

/-- Test 1 of R222: the declared size is reached. -/
def State.sizeReached (s : State) : Bool := s.sizeDefined && decide (s.total ≥ s.lzEnd)

/-- Test 2 of R222: the write-step guard of R224. -/
def State.limitReached (s : State) : Bool := decide (s.windowPos ≥ s.limit)

/-- Enough bytes have gone to the sink (R300). -/
def State.allWritten (s : State) : Bool := s.sizeDefined && decide (s.writtenFileSize ≥ s.unpackedSize.toNat)

/-- The bits of the property register (R40, R101). -/
def State.v7 (s : State) : Bool := s.props.getLsbD 1

/-- How many lengths this file's table sets carry (R203). -/
def State.tableTotal (s : State) : Nat := Operands.tablesSizeSum s.params s.v7

/-- `SolidContinues()` of R292: the difference is absolute and its bound included. -/
def State.solidContinues (s : State) : Bool :=
  s.chainValid && decide (s.total - s.lzEnd ≤ Config.solidRecoverLimit ∧ s.lzEnd - s.total ≤ Config.solidRecoverLimit)

/-- The result of a file that ended without an error in its loop (R305), in the order of its lines. -/
def State.fileResult (P : Config.Params) (byEof : Bool) (s : State) : Result :=
  if s.isUnsupportedFilter then .error .unsupportedFilter
  else if s.fbFill > 0 then .error .corruptedData
  else if s.sizeDefined ∧ s.writtenFileSize < s.unpackedSize.toNat then .error .corruptedData
  else if byEof ∧ s.sizeDefined = false ∧ P.eofUndefinedOk = false then .error .corruptedData
  else if s.minorError ∧ s.writtenFileSize = 0 then .error .corruptedData
  else .ok

/-- The numeric code of a result (R331). -/
def Result.code : Result → Nat
  | .ok => 0
  | .error .corruptedData => 1
  | .error .unsupportedFilter => 2
  | .error .minorError => 3
  | .error .io => 4
  | .error .outOfMemory => 5

end Sys2Proof.Machine
end

