-- ==== Sys2Proof/Machine/Ops.lean ====
section
/-! DEFINITION. The named operations over memory, registers, input and output that the meanings share, and taking an error. -/

namespace Sys2Proof.Machine

/-! How an operation ends. -/

/-- The end of an operation: a value, an error kind raised in a state (R340), or a fault of the model. -/
inductive Flow (α : Type) where
  | ok (a : α)
  | raised (k : ErrorKind) (s : State)
  | fault (r : Fault)
deriving DecidableEq, Repr

/-- One operation after another. -/
def Flow.bind {α β : Type} (x : Flow α) (f : α → Flow β) : Flow β :=
  match x with
  | .ok a => f a
  | .raised k s => .raised k s
  | .fault r => .fault r

/-! Memory: the sliding window (R72 to R75). -/

/-- The byte at an address; none where nothing is listed. -/
def Memory.read : Memory → Nat → Option Byte
  | [], _ => none
  | (x, b) :: m, a => if x = a then some b else Memory.read m a

/-- The memory with a byte stored at an address, in the same canonical form. -/
def Memory.write : Memory → Nat → Byte → Memory
  | [], a, b => [(a, b)]
  | (x, c) :: m, a, b =>
    if a < x then (a, b) :: (x, c) :: m
    else if a = x then (a, b) :: m
    else (x, c) :: Memory.write m a b

/-- The canonical form: addresses strictly rising. Every listed byte differs from "no value", which an unlisted address holds. -/
def Memory.wf : Memory → Bool
  | [] => true
  | [_] => true
  | (a, _) :: (b, c) :: m => decide (a < b) && Memory.wf ((b, c) :: m)

/-- `W[i]` read (R16, R73). -/
def windowRead (s : State) (i : Nat) : Flow Byte :=
  match s.window.read i with
  | some b => .ok b
  | none => .fault .unwrittenWindowByte

/-- `W[i] <- b` (R16): the window has indices 0 to `windowSize + MAX_MATCH_LEN - 1` (R72, R73). -/
def windowWrite (s : State) (i : Nat) (b : Byte) : Flow State :=
  if i < s.windowSize + Config.maxMatchLen then .ok { s with window := s.window.write i b }
  else .fault .windowIndexOutOfRange

/-- The `n` window bytes from index `i` on. -/
def windowRange (s : State) : Nat → Nat → Flow (List Byte)
  | _, 0 => .ok []
  | i, n + 1 => (windowRead s i).bind fun b => (windowRange s (i + 1) n).bind fun bs => .ok (b :: bs)

/-- Stores bytes at consecutive window indices from `i` on. -/
def windowStore : Nat → List Byte → State → Flow State
  | _, [], s => .ok s
  | i, b :: bs, s => (windowWrite s i b).bind (windowStore (i + 1) bs)

/-- A byte produced at the cursor (R230): written at `windowPos`, which moves on. -/
def putByte (b : Byte) (s : State) : Flow State :=
  (windowWrite s s.windowPos b).bind fun s' => .ok { s' with windowPos := s'.windowPos + 1 }

/-! Registers. -/

/-- Move-to-front of `repDist[k]` (R225). -/
def RepDist.moveToFront (r : RepDist) (k : Nat) : RepDist :=
  match k with
  | 0 => r
  | 1 => ⟨r.r1, r.r0, r.r2, r.r3⟩
  | 2 => ⟨r.r2, r.r0, r.r1, r.r3⟩
  | _ => ⟨r.r3, r.r0, r.r1, r.r2⟩

/-- Shift-in of a new distance (R226). -/
def RepDist.shiftIn (r : RepDist) (d : Word32) : RepDist := ⟨d, r.r0, r.r1, r.r2⟩

/-! The bit reader (40_bitreader.md). -/

/-- `getValue(n)` of R143: a peek. -/
def getValue (s : State) (n : Nat) : Nat := bitsValue n (s.streamBits n)

/-- `movePos(n)` of R144. -/
def State.movePos (s : State) (n : Nat) : State := { s with pc := s.pc + n }

/-- `readBits(n)` of R147: the value and the state after it. -/
def readBits (s : State) (n : Nat) : Nat × State := (bitsValue n (s.streamBits n), s.movePos n)

/-- `readBits9(n)` of R145. -/
def readBits9 (s : State) (n : Nat) : Nat × State := readBits s n

/-- `readBits9Fix(n)` of R145: the same function. -/
def readBits9Fix (s : State) (n : Nat) : Nat × State := readBits s n

/-- The 32-bit snapshot of R146: the stream from the byte that holds `pc` on. -/
def snapshot (s : State) : Nat :=
  (s.srcByte s.byteOff).toNat <<< 24 ||| (s.srcByte (s.byteOff + 1)).toNat <<< 16 |||
    (s.srcByte (s.byteOff + 2)).toNat <<< 8 ||| (s.srcByte (s.byteOff + 3)).toNat

/-- `readBitsBig(n, snapshot)` of R146, for `n ≤ 25`. -/
def readBitsBig (s : State) (n : Nat) : Nat × State :=
  ((snapshot s >>> (32 - s.bitPos - n)) &&& (2 ^ n - 1), s.movePos n)

/-- `alignToByte()` of R150. -/
def alignToByte (s : State) : State :=
  if s.bitPos = 0 then s
  else { s with minorError := s.minorError || s.padNonZero, pc := 8 * (s.byteOff + 1) }

/-- The source answers this `prepare` with an I/O error (R142, R350; log 5): the position has reached the byte offset
from which it fails, or the look-ahead needs bytes that it fails to deliver. -/
def State.sourceFails (s : State) : Bool :=
  match s.src.ioAt with
  | none => false
  | some n => decide (n ≤ s.byteOff ∨ s.srcLen < s.byteOff + Config.lookAheadSize)

/-- `prepare` of R142: `wasFinished` is set when the source ends inside the look-ahead (log 4); a source error is `Io`. -/
def prepare (s : State) : Flow State :=
  if s.sourceFails then .raised .io s
  else .ok { s with wasFinished := s.wasFinished || (s.src.ioAt.isNone && decide (s.srcLen < s.byteOff + Config.lookAheadSize)) }

/-! Output (45_output_mainloop.md). -/

/-- Pushes bytes to SNK. A sink that is to fail takes the bytes up to its point and answers with an error (log 6). -/
def sinkPush (bs : List Byte) (s : State) : Flow State :=
  match s.snk.ioAt with
  | none => .ok { s with snk := { s.snk with bytes := s.snk.bytes ++ bs } }
  | some n =>
    if s.snk.bytes.length + bs.length ≤ n ∨ bs = [] then .ok { s with snk := { s.snk with bytes := s.snk.bytes ++ bs } }
    else .raised .io { s with snk := { s.snk with bytes := s.snk.bytes ++ bs.take (n - s.snk.bytes.length) } }

/-- How many of `n` bytes the write clamp lets through (R301). -/
def State.clamp (s : State) (n : Nat) : Nat :=
  if s.sizeDefined = false then n else min n (s.unpackedSize.toNat - s.writtenFileSize)

/-- `SinkWrite` of R301: the clamp limits what is pushed, `writtenFileSize` counts everything. -/
def sinkWrite (bs : List Byte) (s : State) : Flow State :=
  (sinkPush (bs.take (s.clamp bs.length)) s).bind fun s' => .ok { s' with writtenFileSize := s'.writtenFileSize + bs.length }

/-- `WinBytes(lzWritten, e)` of R302. -/
def winBytes (s : State) (e : Nat) : Flow (List Byte) := windowRange s (s.lzWritten - s.lzSize) (e - s.lzWritten)

/-- The window bytes up to LZ coordinate `e` go straight to the sink (R302). -/
def emitPlain (e : Nat) (s : State) : Flow State :=
  (winBytes s e).bind fun bs => (sinkWrite bs s).bind fun s' => .ok { s' with lzWritten := e }

/-- The window bytes up to LZ coordinate `e` go into the filter buffer (R302). -/
def collect (e : Nat) (s : State) : Flow State :=
  (winBytes s e).bind fun bs => .ok { s with fb := s.fb ++ bs, lzWritten := e }

/-- A complete filter region: the filter leaves the queue and its bytes, transformed, go to the sink (R302, R270, R275). -/
def runFilter (f : FilterEntry) (rest : List FilterEntry) (s : State) : Flow State :=
  sinkWrite (applyFilter s.params f (f.startPos - s.lzFileStart) s.fb)
    { s with
      queue := rest
      fb := []
      isUnsupportedFilter := s.isUnsupportedFilter || !(Operands.filterKnown s.params f.type.toNat) }

/-- The loop of `Flush` (R302) over the queue, up to LZ coordinate `total`: plain bytes before a filter, the region of the
filter, and the filter once its region is complete; after the last filter, the rest. -/
def flushQueue (total : Nat) : List FilterEntry → State → Flow State
  | [], s => if s.lzWritten < total then emitPlain total s else .ok s
  | f :: rest, s =>
    if total ≤ s.lzWritten then .ok s
    else
      (if s.lzWritten < f.startPos then emitPlain (min total f.startPos) s else .ok s).bind fun s =>
        if total ≤ s.lzWritten then .ok s
        else
          (collect (min total (f.startPos + f.size)) s).bind fun s =>
            if s.fb.length = f.size then (runFilter f rest s).bind (flushQueue total rest) else .ok s

/-- `Flush()` of R302. -/
def flush (s : State) : Flow State := flushQueue s.total s.queue s

/-- `Wrap()` of R303: the tail moves to the start of the window. -/
def wrap (s : State) : Flow State :=
  if s.windowPos < s.windowSize then .ok s
  else
    (windowRange s s.windowSize (s.windowPos - s.windowSize)).bind fun tail =>
      (windowStore 0 tail s).bind fun s' =>
        .ok { s' with lzSize := s'.lzSize + s'.windowSize, windowPos := s'.windowPos - s'.windowSize }

/-! The match copy (43_lz_symbols.md R237, R238). -/

/-- The source index of the next byte of a copy at distance `dist` (R237). -/
def State.copySource (s : State) (dist : Nat) : Nat :=
  if dist ≤ s.windowPos then s.windowPos - dist else s.windowPos + s.windowSize - dist

/-- `n` bytes copied one by one, the source index computed anew for each (R237). -/
def copyBytes (dist : Nat) : Nat → State → Flow State
  | 0, s => .ok s
  | n + 1, s => (windowRead s (s.copySource dist)).bind fun b => (putByte b s).bind (copyBytes dist n)

/-- The distance is invalid (R238): beyond the dictionary, or before the start. -/
def State.badDistance (s : State) (dist : Nat) : Bool :=
  decide (dist > s.dictSizeForCheck) || (decide (s.lzSize = 0) && decide (dist > s.windowPos))

/-- `CopyMatch(dist, len)` of R237 with the checks of R238. -/
def copyMatch (dist len : Nat) (s : State) : Flow State :=
  if s.badDistance dist then .raised .corruptedData s else copyBytes dist len s

/-! The life of a file. -/

/-- `FullReset()` of R371. -/
def fullReset (s : State) : State :=
  { s with
    repDist := RepDist.reset
    lastLength := 0
    windowPos := 0
    lzSize := 0
    lzEnd := 0
    lzWritten := 0
    lzFileStart := 0
    huff := HuffSet.reset s.params
    tablesFilled := false
    useAlignBits := false
    queue := []
    filterEnd := 0
    fb := []
    pc := 0
    blockEnd := 0
    blockEndBits7 := 0
    isLastBlock := false
    minorError := false
    isUnsupportedFilter := false
    wasFinished := false
    writtenFileSize := 0 }

/-- The start of a write step (R300, step 1): `limit` is computed anew and the symbol loop runs. -/
def beginWriteStep (s : State) : State :=
  { s with limit := min s.windowSize (s.windowPos + Config.writeStep), phase := .symbols }

/-- A `decode` reports its result and the instance is idle; only an `Ok` file of defined size leaves a valid chain (R305, R344).
A filter still pending with nothing collected "is discarded" (R276, R305) and so does nothing more; that its entry then stays in
`queue`, and the bytes of a region cut short in `fb`, until the next per-file setup or `reset` empties both is a DESIGN CHOICE
(log 28). -/
def endDecode (r : Result) (s : State) : State :=
  { s with status := s.status ++ [r], chainValid := decide (r = .ok) && s.sizeDefined, phase := .idle }

/-- TAKING AN ERROR (R340, R307): the element stops where it is, one flush is made whose own error replaces nothing (R341),
STATUS reports the kind, `chainValid` is cleared (R344) and the instance is idle. There is no handler and no vector. No
return stands beside it, because the spec gives none (R341): the next transaction starts anew. -/
def takeError (k : ErrorKind) (s : State) : Host.Outcome State Fault Refusal :=
  match flush s with
  | .ok s' => .next (endDecode (.error k) s')
  | .raised _ s' => .next (endDecode (.error k) s')
  | .fault r => .fault r

/-- The outcome an operation's end stands for. -/
def Flow.outcome (x : Flow State) : Host.Outcome State Fault Refusal :=
  match x with
  | .ok s => .next s
  | .raised k s => takeError k s
  | .fault r => .fault r

end Sys2Proof.Machine
end

