-- ==== Sys2Proof/Machine/Setup.lean ====
section
/-! DEFINITION. PROPS: the two property bytes and per-file setup (45_output_mainloop.md R290 to R293), and the `reset` call (R372). -/

namespace Sys2Proof.Machine

/-- The `reset` call of CTRL (R372): a full reset and `chainValid` cleared. R58 gives `windowSize` and `dictSizeForCheck` the value 0
after it and no window, while R371 says that `FullReset` itself touches neither the window nor its size, and R372 names no other
write; the model follows R58's table, and with no window no byte of one is listed. DESIGN CHOICE (log 29). -/
def resetCall (s : State) : State :=
  { fullReset s with chainValid := false, windowSize := 0, dictSizeForCheck := 0, window := [] }

/-- The arguments of the accepted call, latched (R40, R42): the property register, the declared size, the file's source and sink. -/
def latchArgs (props : BitVec 16) (s : State) : State :=
  { s with
    props := props
    unpackedSize := s.port.unpackedSize.getD 0
    sizeDefined := s.port.unpackedSize.isSome
    src := s.port.src
    snk := { bytes := [], ioAt := s.port.snkIoAt } }

/-- The end of a `decode` whose properties are rejected (R290), its arguments latched: `CorruptedData`, with `pc` at the start of this
file's stream, of which nothing is read (R332, R31), and a cleared chain. Nothing else changes, and no flush is made (R290).
That the latched arguments and `pc` are no part of R290's "no other state" is DEDUCED (log 15). -/
def rejectProps (s : State) : State := endDecode (.error .corruptedData) { s with pc := 0 }

/-- A file that keeps no dictionary (R291): a full reset and a window of its own, nothing in it written yet (log 8). -/
def freshWindow (ws : Nat) (s : State) : State := { fullReset s with windowSize := ws, window := [] }

/-- What per-file setup clears and sets for every file (R291), and the first write step. -/
def startFile (s : State) : State :=
  beginWriteStep
    { s with
      dictSizeForCheck := s.windowSize
      isLastBlock := false
      queue := []
      filterEnd := 0
      fb := []
      minorError := false
      isUnsupportedFilter := false
      wasFinished := false
      pc := 0
      blockEnd := 0
      blockEndBits7 := 0
      writtenFileSize := 0
      lzFileStart := s.total
      lzWritten := s.total
      lzEnd := if s.sizeDefined then s.total + s.unpackedSize.toNat else s.total }

/-- Per-file setup once the window is settled (R291); a refused allocation is `OutOfMemory` (R334, log 7). -/
def setupFile (windowOk : Bool) (s : State) : State :=
  if windowOk && s.port.filterAvail then startFile s else endDecode (.error .outOfMemory) s

/-- `PROPS` (R290, R291): the properties are checked, the dictionary is kept or made anew, and the file starts. -/
def execProps (r0 : BitVec 3) (pow : BitVec 5) (frac : BitVec 5) (r1 : Bool) (v7 : Bool) (solid : Bool) (s : State) : Host.Outcome State Fault Refusal :=
  let s1 := latchArgs (Operands.propsWord r0 pow frac r1 v7 solid) s
  if Operands.propsRejected pow.toNat frac.toNat then .next (rejectProps s1)
  else
    let ws := Operands.windowSizeOf pow.toNat frac.toNat
    if solid && s.solidContinues then
      if ws = s.windowSize then .next (setupFile true s1) else .refused .windowSizeChange
    else .next (setupFile s.port.windowAvail (freshWindow ws s1))

end Sys2Proof.Machine
end

