-- ==== Sys2Proof/Machine/Tables.lean ====
section
/-! DEFINITION. Table transmission (42_block_tables.md R200 to R217): the level lengths, the table lengths, and the builds. -/

namespace Sys2Proof.Machine

/-- `c` entries `n` of the level lengths, cut at 20 (R201, R215 to R217). -/
def addLevels (c n : Nat) (s : State) : State :=
  { s with lv := s.lv ++ List.replicate (min c (Config.levelSize - s.lv.length)) n, phase := .levelNib }

/-- `c` entries `v` of the table lengths, cut at the table's end (R203, R204 (d)). -/
def addLengths (c v : Nat) (s : State) : State :=
  { s with tbl := s.tbl ++ List.replicate (min c (s.tableTotal - s.tbl.length)) v }

/-- A run of the preceding entry (R204): `CorruptedData` at the start of the table, after the extra bits were read. -/
def repeatLength (sym e : Nat) (s : State) : Host.Outcome State Fault Refusal :=
  match s.tbl.getLast? with
  | none => takeError .corruptedData s
  | some v => .next (addLengths (Operands.levelRunCount s.params sym e) v s)

/-- The end of the level lengths (R200, R202, R207): the over-read test, then the level decoder is built. -/
def levelsDone (s : State) : Flow State :=
  if s.tableOverRead then .raised .corruptedData s
  else match Huff.build Config.fastLevel .fullOrEmpty s.lv with
    | none => .raised .corruptedData s
    | some H => .ok { s with level := H, tbl := [], phase := .levelSym }

/-- The four sections of a transmitted table (R205, R107); a v6 file's distance section is padded to 80 (R208). -/
def splitTable (P : Config.Params) (v7 : Bool) (t : List Nat) : List Nat × List Nat × List Nat × List Nat :=
  let d := if v7 then Config.distSizeV7 else Config.distSizeV6
  let afterMain := t.drop P.mainSize
  let afterDist := afterMain.drop d
  (t.take P.mainSize,
    afterMain.take d ++ List.replicate (Config.distSizeV7 - d) 0,
    afterDist.take Config.alignSize,
    (afterDist.drop Config.alignSize).take Config.lenSize)

/-- The four builds of R205, all FULL_OR_EMPTY; none if any fails. -/
def buildSet (main dist align len : List Nat) : Option HuffSet :=
  match Huff.build Config.fastMain .fullOrEmpty main, Huff.build Config.fastDist .fullOrEmpty dist,
      Huff.build Config.fastAlign .fullOrEmpty align, Huff.build Config.fastLen .fullOrEmpty len with
  | some m, some d, some a, some l => some ⟨m, d, a, l⟩
  | _, _, _, _ => none

/-- The end of the table lengths (R200, R205 to R207): the over-read test, the four builds, `useAlignBits`, and the tables take
effect. After a failed build what the four decoders hold is a free value (R385, log 12). -/
def tablesDone (s : State) : Flow State :=
  if s.tableOverRead then .raised .corruptedData s
  else
    let t := splitTable s.params s.v7 s.tbl
    match buildSet t.1 t.2.1 t.2.2.1 t.2.2.2 with
    | none => .raised .corruptedData
        { s with huff := Config.decodersAfterFailedBuild s.freeCount, freeCount := s.freeCount + 1 }
    | some H => .ok { s with huff := H, useAlignBits := usesAlignBits t.2.2.1, tablesFilled := true, phase := .symbols }

/-- `LVLNIB 0` (R215). -/
def execLvlNib0 (s : State) : Host.Outcome State Fault Refusal := .next (addLevels 1 0 s)

/-- `LVLNIB 1` (R215). -/
def execLvlNib1 (s : State) : Host.Outcome State Fault Refusal := .next (addLevels 1 1 s)

/-- `LVLNIB 2` (R215). -/
def execLvlNib2 (s : State) : Host.Outcome State Fault Refusal := .next (addLevels 1 2 s)

/-- `LVLNIB 3` (R215). -/
def execLvlNib3 (s : State) : Host.Outcome State Fault Refusal := .next (addLevels 1 3 s)

/-- `LVLNIB 4` (R215). -/
def execLvlNib4 (s : State) : Host.Outcome State Fault Refusal := .next (addLevels 1 4 s)

/-- `LVLNIB 5` (R215). -/
def execLvlNib5 (s : State) : Host.Outcome State Fault Refusal := .next (addLevels 1 5 s)

/-- `LVLNIB 6` (R215). -/
def execLvlNib6 (s : State) : Host.Outcome State Fault Refusal := .next (addLevels 1 6 s)

/-- `LVLNIB 7` (R215). -/
def execLvlNib7 (s : State) : Host.Outcome State Fault Refusal := .next (addLevels 1 7 s)

/-- `LVLNIB 8` (R215). -/
def execLvlNib8 (s : State) : Host.Outcome State Fault Refusal := .next (addLevels 1 8 s)

/-- `LVLNIB 9` (R215). -/
def execLvlNib9 (s : State) : Host.Outcome State Fault Refusal := .next (addLevels 1 9 s)

/-- `LVLNIB 10` (R215). -/
def execLvlNib10 (s : State) : Host.Outcome State Fault Refusal := .next (addLevels 1 10 s)

/-- `LVLNIB 11` (R215). -/
def execLvlNib11 (s : State) : Host.Outcome State Fault Refusal := .next (addLevels 1 11 s)

/-- `LVLNIB 12` (R215). -/
def execLvlNib12 (s : State) : Host.Outcome State Fault Refusal := .next (addLevels 1 12 s)

/-- `LVLNIB 13` (R215). -/
def execLvlNib13 (s : State) : Host.Outcome State Fault Refusal := .next (addLevels 1 13 s)

/-- `LVLNIB 14` (R215). -/
def execLvlNib14 (s : State) : Host.Outcome State Fault Refusal := .next (addLevels 1 14 s)

/-- `LVLESC` (R201): a second nibble follows. -/
def execLvlEsc (s : State) : Host.Outcome State Fault Refusal := .next { s with phase := .levelNib2 }

/-- `LVLNIB15` (R216): the single length 15. -/
def execLvlNib15 (s : State) : Host.Outcome State Fault Refusal := .next (addLevels 1 15 s)

/-- `LVLZRUN 1` (R217). -/
def execLvlZrun1 (s : State) : Host.Outcome State Fault Refusal := .next (addLevels (1 + 2) 0 s)

/-- `LVLZRUN 2` (R217). -/
def execLvlZrun2 (s : State) : Host.Outcome State Fault Refusal := .next (addLevels (2 + 2) 0 s)

/-- `LVLZRUN 3` (R217). -/
def execLvlZrun3 (s : State) : Host.Outcome State Fault Refusal := .next (addLevels (3 + 2) 0 s)

/-- `LVLZRUN 4` (R217). -/
def execLvlZrun4 (s : State) : Host.Outcome State Fault Refusal := .next (addLevels (4 + 2) 0 s)

/-- `LVLZRUN 5` (R217). -/
def execLvlZrun5 (s : State) : Host.Outcome State Fault Refusal := .next (addLevels (5 + 2) 0 s)

/-- `LVLZRUN 6` (R217). -/
def execLvlZrun6 (s : State) : Host.Outcome State Fault Refusal := .next (addLevels (6 + 2) 0 s)

/-- `LVLZRUN 7` (R217). -/
def execLvlZrun7 (s : State) : Host.Outcome State Fault Refusal := .next (addLevels (7 + 2) 0 s)

/-- `LVLZRUN 8` (R217). -/
def execLvlZrun8 (s : State) : Host.Outcome State Fault Refusal := .next (addLevels (8 + 2) 0 s)

/-- `LVLZRUN 9` (R217). -/
def execLvlZrun9 (s : State) : Host.Outcome State Fault Refusal := .next (addLevels (9 + 2) 0 s)

/-- `LVLZRUN 10` (R217). -/
def execLvlZrun10 (s : State) : Host.Outcome State Fault Refusal := .next (addLevels (10 + 2) 0 s)

/-- `LVLZRUN 11` (R217). -/
def execLvlZrun11 (s : State) : Host.Outcome State Fault Refusal := .next (addLevels (11 + 2) 0 s)

/-- `LVLZRUN 12` (R217). -/
def execLvlZrun12 (s : State) : Host.Outcome State Fault Refusal := .next (addLevels (12 + 2) 0 s)

/-- `LVLZRUN 13` (R217). -/
def execLvlZrun13 (s : State) : Host.Outcome State Fault Refusal := .next (addLevels (13 + 2) 0 s)

/-- `LVLZRUN 14` (R217). -/
def execLvlZrun14 (s : State) : Host.Outcome State Fault Refusal := .next (addLevels (14 + 2) 0 s)

/-- `LVLZRUN 15` (R217). -/
def execLvlZrun15 (s : State) : Host.Outcome State Fault Refusal := .next (addLevels (15 + 2) 0 s)

/-- `LV.LEN 0` (R210). -/
def execLvLen0 (s : State) : Host.Outcome State Fault Refusal := .next (addLengths 1 0 s)

/-- `LV.LEN 1` (R210). -/
def execLvLen1 (s : State) : Host.Outcome State Fault Refusal := .next (addLengths 1 1 s)

/-- `LV.LEN 2` (R210). -/
def execLvLen2 (s : State) : Host.Outcome State Fault Refusal := .next (addLengths 1 2 s)

/-- `LV.LEN 3` (R210). -/
def execLvLen3 (s : State) : Host.Outcome State Fault Refusal := .next (addLengths 1 3 s)

/-- `LV.LEN 4` (R210). -/
def execLvLen4 (s : State) : Host.Outcome State Fault Refusal := .next (addLengths 1 4 s)

/-- `LV.LEN 5` (R210). -/
def execLvLen5 (s : State) : Host.Outcome State Fault Refusal := .next (addLengths 1 5 s)

/-- `LV.LEN 6` (R210). -/
def execLvLen6 (s : State) : Host.Outcome State Fault Refusal := .next (addLengths 1 6 s)

/-- `LV.LEN 7` (R210). -/
def execLvLen7 (s : State) : Host.Outcome State Fault Refusal := .next (addLengths 1 7 s)

/-- `LV.LEN 8` (R210). -/
def execLvLen8 (s : State) : Host.Outcome State Fault Refusal := .next (addLengths 1 8 s)

/-- `LV.LEN 9` (R210). -/
def execLvLen9 (s : State) : Host.Outcome State Fault Refusal := .next (addLengths 1 9 s)

/-- `LV.LEN 10` (R210). -/
def execLvLen10 (s : State) : Host.Outcome State Fault Refusal := .next (addLengths 1 10 s)

/-- `LV.LEN 11` (R210). -/
def execLvLen11 (s : State) : Host.Outcome State Fault Refusal := .next (addLengths 1 11 s)

/-- `LV.LEN 12` (R210). -/
def execLvLen12 (s : State) : Host.Outcome State Fault Refusal := .next (addLengths 1 12 s)

/-- `LV.LEN 13` (R210). -/
def execLvLen13 (s : State) : Host.Outcome State Fault Refusal := .next (addLengths 1 13 s)

/-- `LV.LEN 14` (R210). -/
def execLvLen14 (s : State) : Host.Outcome State Fault Refusal := .next (addLengths 1 14 s)

/-- `LV.LEN 15` (R210). -/
def execLvLen15 (s : State) : Host.Outcome State Fault Refusal := .next (addLengths 1 15 s)

/-- `LV.REP_S e` (R211). -/
def execLvRepS (e : Nat) (s : State) : Host.Outcome State Fault Refusal := repeatLength 16 e s

/-- `LV.REP_L e` (R212). -/
def execLvRepL (e : Nat) (s : State) : Host.Outcome State Fault Refusal := repeatLength 17 e s

/-- `LV.ZERO_S e` (R213). -/
def execLvZeroS (e : Nat) (s : State) : Host.Outcome State Fault Refusal := .next (addLengths (Operands.levelRunCount s.params 18 e) 0 s)

/-- `LV.ZERO_L e` (R214). -/
def execLvZeroL (e : Nat) (s : State) : Host.Outcome State Fault Refusal := .next (addLengths (Operands.levelRunCount s.params 19 e) 0 s)

end Sys2Proof.Machine
end

