-- ==== Sys2Proof/Machine/Control.lean ====
section
/-! DEFINITION. What the machine does between two instructions: the calls of CTRL, the main loop and the tests of the symbol
loop (R300, R222), the ends of the table sections (R200), `prepare` (R142), and the fetch. -/

namespace Sys2Proof.Machine

/-- What stands before the next instruction: an action of the machine that is a step of its own, or nothing more, the
state being ready for the fetch. -/
inductive Before where
  | act (o : Host.Outcome State Fault Refusal)
  | go (s : State)
deriving Repr

/-- The end of a file without an error in its loop (R305). -/
def finish (byEof : Bool) (s : State) : State := endDecode (s.fileResult s.params byEof) s

/-- `Flush(); Wrap()` of the main loop (R300, steps 5 and 6). -/
def flushAndWrap (s : State) : Flow State := (flush s).bind wrap

/-- The symbol loop returned `BlockDone` or `Eof` (R300): the final flush, and the file is finished. -/
def lastFlush (byEof : Bool) (s : State) : Flow State :=
  (flushAndWrap s).bind fun s' => .ok (finish byEof s')

/-- The symbol loop returned `Limit` (R300): the flush, and the file is finished or a new write step begins (R304). -/
def endWriteStep (s : State) : Flow State :=
  (flushAndWrap s).bind fun s' =>
    if s'.allWritten || s'.sizeReached then .ok (finish false s') else .ok (beginWriteStep s')

/-- The block's end is reached (R222, test 4): over-read, the last block's end, or the next header. -/
def endBlock (s : State) : Flow State :=
  if s.isBlockOverRead then .raised .corruptedData s
  else if s.isLastBlock then lastFlush false (alignToByte s)
  else .ok { alignToByte s with phase := .header }

/-- `prepare`, then on with the state it leaves. -/
def prepared (s : State) (k : State → Before) : Before :=
  match prepare s with
  | .ok s' => k s'
  | x => .act x.outcome

/-- The tests before a main symbol, in the order of R222. `prepare` stands before the first look at the input (log 27). -/
def beforeSymbol (s : State) : Before :=
  if s.sizeReached || s.limitReached then .act (endWriteStep s).outcome
  else prepared s fun s =>
    if s.inputEofError then .act (lastFlush true s).outcome
    else if s.atBlockEnd then .act (endBlock s).outcome
    else .go s

/-- Before a level nibble (R201): the section ends with its 20th length. -/
def beforeNibble (s : State) : Before :=
  if Config.levelSize ≤ s.lv.length then .act (levelsDone s).outcome else prepared s .go

/-- Before a level symbol (R203, R207): the section ends with its last length; the over-read test comes before every symbol. -/
def beforeLevelSymbol (s : State) : Before :=
  if s.tableTotal ≤ s.tbl.length then .act (tablesDone s).outcome
  else prepared s fun s => if s.tableOverRead then .act (takeError .corruptedData s) else .go s

/-- Between transactions (R363): the next call of CTRL. Without one the instance keeps all of its state (log 24). A `decode`
call goes on to its property bytes. -/
def beforeCall (s : State) : Before :=
  match s.ctrl with
  | [] => .act (.next s)
  | .reset :: rest => .act (.next (resetCall { s with ctrl := rest }))
  | .decode args :: rest => .go { s with ctrl := rest, port := args }

/-- What stands before the next instruction, by what comes next. Inside an element nothing does (R222). -/
def before (s : State) : Before :=
  match s.phase with
  | .idle => beforeCall s
  | .symbols => beforeSymbol s
  | .header => prepared s fun s => .go (alignToByte s)
  | .levelNib => beforeNibble s
  | .levelNib2 => prepared s .go
  | .levelSym => beforeLevelSymbol s
  | .vuDelta => prepared s .go
  | .lenSlot => .go s
  | .distSlot => .go s
  | .vuSize => .go s
  | .filterType => .go s

/-- The context the next field is decoded in (R125, R12). -/
def State.decodeCtx (s : State) : DecodeCtx :=
  { fmt := match s.phase with
      | .idle => .props
      | .symbols => .mainSym
      | .header => .blockFlags
      | .levelNib => .levelNib
      | .levelNib2 => .levelNib2
      | .levelSym => .levelSym
      | .lenSlot => .lenSlot
      | .distSlot => .distSlot
      | .vuDelta => .vuSel
      | .vuSize => .vuSel
      | .filterType => .filterType
    sym := match s.phase with
      | .levelSym => s.level
      | .lenSlot => s.huff.len
      | .distSlot => s.huff.dist
      | _ => s.huff.main
    align := if s.useAlignBits then some s.huff.align else none
    params := s.params }

/-- How many stream bits the fetch looks at: no field with its operands takes more than 55 (R112, R125). -/
def fetchWidth : Nat := 64

/-- The bits the next instruction is decoded from: the property bytes of the call, or the input at `pc`. -/
def State.fetchBits (s : State) : List Bool :=
  match s.phase with
  | .idle => toBits 16 s.port.props.toNat
  | _ => s.streamBits fetchWidth

/-- The fetch: the decoder on the next bits, in the state's context. -/
def fetch (s : State) : Decoded := decode s.decodeCtx s.fetchBits

/-- The state past an instruction of `n` bits: `pc` moves over it (R31); the property bytes are no input. -/
def State.passed (s : State) (n : Nat) : State := if s.phase = .idle then s else s.movePos n

/-- What a rejected fetch leads to, `pc` being where the decoding stopped. A decoder without symbols is `CorruptedData`, the
effect that 93_implementation_defined.md allows for it (R180, log 10); the other two have no meaning (R180, R132). -/
def rejectedFetch (r : Reject) (s : State) : Host.Outcome State Fault Refusal :=
  match r with
  | .emptyDecoder => takeError .corruptedData s
  | .noCode => .refused .noCode
  | .noRow => .refused .noRow

end Sys2Proof.Machine
end

