-- ==== Sys2Proof/Machine/BlockHeader.lean ====
section
/-! DEFINITION. The block header (42_block_tables.md R190 to R199). -/

namespace Sys2Proof.Machine

/-- The block end of R196, `pc` being at the first payload bit: a zero-sized block is made one byte long and recorded in
`minorError`. The header's latch and `isLastBlock` are written with it (R199, R41, log 16). -/
def commitHeader (flags : Byte) (b7m1 : BitVec 3) (last : Bool) (size : Nat) (s : State) : State :=
  let b7 := b7m1.toNat + 1
  let bs := Operands.blockBytes size b7
  { s with
    hdrFlags := flags
    minorError := s.minorError || decide (bs = 0)
    blockEnd := s.byteOff + (if bs = 0 then 1 else bs) - s.params.blockEndBias
    blockEndBits7 := b7 % 8
    isLastBlock := last }

/-- A table set comes next (R200): `tablesFilled` is cleared and the level lengths start. -/
def beginTables (s : State) : State := { s with tablesFilled := false, lv := [], phase := .levelNib }

/-- `ReadBlockHeader` (R191) once its bytes are read: the checksum before anything is committed (R195), the tables-absent test
last (R198). -/
def readHeader (flags : Byte) (b7m1 : BitVec 3) (last tables : Bool) (cx : Byte) (size : List Byte) (s : State) :
    Host.Outcome State Fault Refusal :=
  if xorBytes (flags :: cx :: size) ≠ Config.blockChecksum then takeError .corruptedData s
  else
    let s1 := commitHeader flags b7m1 last (leValue size) s
    if tables then .next (beginTables s1)
    else if s1.tablesFilled then .next { s1 with phase := .symbols }
    else takeError .corruptedData s1

/-- `BLKHDR` (R191) with `num = 0`. -/
def execBlkhdr0 (b7m1 : BitVec 3) (r5 : Bool) (last : Bool) (tables : Bool) (cx : Byte) (s0 : Byte) (s : State) : Host.Outcome State Fault Refusal := 
  readHeader (Operands.headerFlags b7m1 0 r5 last tables) b7m1 last tables cx [s0] s

/-- `BLKHDR` (R191) with `num = 1`. -/
def execBlkhdr1 (b7m1 : BitVec 3) (r5 : Bool) (last : Bool) (tables : Bool) (cx : Byte) (s0 : Byte) (s1 : Byte) (s : State) : Host.Outcome State Fault Refusal := 
  readHeader (Operands.headerFlags b7m1 1 r5 last tables) b7m1 last tables cx [s0, s1] s

/-- `BLKHDR` (R191) with `num = 2`. -/
def execBlkhdr2 (b7m1 : BitVec 3) (r5 : Bool) (last : Bool) (tables : Bool) (cx : Byte) (s0 : Byte) (s1 : Byte) (s2 : Byte) (s : State) : Host.Outcome State Fault Refusal := 
  readHeader (Operands.headerFlags b7m1 2 r5 last tables) b7m1 last tables cx [s0, s1, s2] s

/-- `BLKHDR.NUM3 (illegal)` (R194): the error is raised once `flags` and `checksumXor` are read. -/
def execBlkhdrNum3 (_b7m1 : BitVec 3) (_r5 : Bool) (_last : Bool) (_tables : Bool) (_cx : Byte) (s : State) : Host.Outcome State Fault Refusal :=
  takeError .corruptedData s

end Sys2Proof.Machine
end

