-- ==== Sys2Proof/Machine/Descriptor.lean ====
section
/-! DEFINITION. The filter descriptor's fields and its registration (44_filters.md R261 to R268). The transforms that a type
names run in the flush (Filters.lean, R270 to R275). -/

namespace Sys2Proof.Machine

/-- `ReadVU` (R261): the value goes to the descriptor field being read, `startPosDelta` first and then `size` (R263). -/
def storeVU (bytes : List Byte) (s : State) : State :=
  let v : Word32 := BitVec.ofNat 32 (leValue bytes)
  if s.phase = .vuSize then { s with fltSize := v, phase := .filterType } else { s with fltDelta := v, phase := .vuSize }

/-- The fate of a descriptor (R263 to R268): oversize and overlap set the flag and drop it, a zero size drops it silently,
anything else is queued. `type` is the raw type code. -/
def enqueueFilter (type channels : Nat) (s : State) : State :=
  let startPos := s.total + s.fltDelta.toNat
  let size := s.fltSize.toNat
  if Config.filterSizeMax < size then { s with isUnsupportedFilter := true }
  else if startPos < s.filterEnd then { s with isUnsupportedFilter := true }
  else if size = 0 then s
  else { s with
    queue := s.queue ++ [{ startPos, size, type := BitVec.ofNat 3 type, channels }]
    filterEnd := startPos + size }

/-- The end of a descriptor whose type is FILTERTYPE row `row` (R263, R262, R300 step 4): its fate, and the symbol loop is called
again with a new `limit`. -/
def registerFilter (row channels : Nat) (s : State) : State :=
  beginWriteStep (enqueueFilter (Operands.rowCode s.params row) channels s)

/-- `VU32 sel=0` (R261). -/
def execVu32Sel0 (b0 : Byte) (s : State) : Host.Outcome State Fault Refusal := .next (storeVU [b0] s)

/-- `VU32 sel=1` (R261). -/
def execVu32Sel1 (b0 : Byte) (b1 : Byte) (s : State) : Host.Outcome State Fault Refusal := .next (storeVU [b0, b1] s)

/-- `VU32 sel=2` (R261). -/
def execVu32Sel2 (b0 : Byte) (b1 : Byte) (b2 : Byte) (s : State) : Host.Outcome State Fault Refusal := .next (storeVU [b0, b1, b2] s)

/-- `VU32 sel=3` (R261). -/
def execVu32Sel3 (b0 : Byte) (b1 : Byte) (b2 : Byte) (b3 : Byte) (s : State) : Host.Outcome State Fault Refusal := .next (storeVU [b0, b1, b2, b3] s)

/-- `type DELTA` (R271), at registration. -/
def execTypeDelta (channelsM1 : BitVec 5) (s : State) : Host.Outcome State Fault Refusal := .next (registerFilter 0 (channelsM1.toNat + 1) s)

/-- `type E8` (R272), at registration. -/
def execTypeE8 (s : State) : Host.Outcome State Fault Refusal := .next (registerFilter 1 0 s)

/-- `type E8E9` (R273), at registration. -/
def execTypeE8E9 (s : State) : Host.Outcome State Fault Refusal := .next (registerFilter 2 0 s)

/-- `type ARM` (R274), at registration. -/
def execTypeArm (s : State) : Host.Outcome State Fault Refusal := .next (registerFilter 3 0 s)

/-- `type 4 (names no filter)` (R275), at registration. -/
def execType4 (s : State) : Host.Outcome State Fault Refusal := .next (registerFilter 4 0 s)

/-- `type 5 (names no filter)` (R275), at registration. -/
def execType5 (s : State) : Host.Outcome State Fault Refusal := .next (registerFilter 5 0 s)

/-- `type 6 (names no filter)` (R275), at registration. -/
def execType6 (s : State) : Host.Outcome State Fault Refusal := .next (registerFilter 6 0 s)

/-- `type 7 (names no filter)` (R275), at registration. -/
def execType7 (s : State) : Host.Outcome State Fault Refusal := .next (registerFilter 7 0 s)

end Sys2Proof.Machine
end

