-- ==== Sys2Proof/Machine/Slots.lean ====
section
/-! DEFINITION. The length of a REPk and the distance of a MATCH, which end their elements (43_lz_symbols.md R229, R232 to R238,
R240, R244, R245). -/

namespace Sys2Proof.Machine

/-- The end of a `REPk` (R240): the length is stored and the match copied from `repDist[0]`. -/
def repLength (slot x : Nat) (s : State) : Host.Outcome State Fault Refusal :=
  let len := Operands.slotToLen slot x
  (copyMatch s.repDist.r0.toNat len { s with lastLength := len, phase := .symbols }).outcome

/-- The registers a `MATCH` writes before its copy (R226, R245). -/
def matchRegisters (dist len : Nat) (s : State) : State :=
  { s with repDist := s.repDist.shiftIn (BitVec.ofNat 32 dist), lastLength := len, phase := .symbols }

/-- The end of a `MATCH` (R244): `LEN_PLUS` on the length, the new distance into the registers, the copy. -/
def matchDist (slot low : Nat) (s : State) : Host.Outcome State Fault Refusal :=
  let dist := Operands.slotToDist slot low
  let len := s.pendLen + Operands.lenPlus s.params slot
  (copyMatch dist len (matchRegisters dist len s)).outcome

/-- `len slot 0` (R229). -/
def execLenSlot0 (s : State) : Host.Outcome State Fault Refusal := repLength 0 0 s

/-- `len slot 1` (R229). -/
def execLenSlot1 (s : State) : Host.Outcome State Fault Refusal := repLength 1 0 s

/-- `len slot 2` (R229). -/
def execLenSlot2 (s : State) : Host.Outcome State Fault Refusal := repLength 2 0 s

/-- `len slot 3` (R229). -/
def execLenSlot3 (s : State) : Host.Outcome State Fault Refusal := repLength 3 0 s

/-- `len slot 4` (R229). -/
def execLenSlot4 (s : State) : Host.Outcome State Fault Refusal := repLength 4 0 s

/-- `len slot 5` (R229). -/
def execLenSlot5 (s : State) : Host.Outcome State Fault Refusal := repLength 5 0 s

/-- `len slot 6` (R229). -/
def execLenSlot6 (s : State) : Host.Outcome State Fault Refusal := repLength 6 0 s

/-- `len slot 7` (R229). -/
def execLenSlot7 (s : State) : Host.Outcome State Fault Refusal := repLength 7 0 s

/-- `len slot 8` (R229). -/
def execLenSlot8 (x : Nat) (s : State) : Host.Outcome State Fault Refusal := repLength 8 x s

/-- `len slot 9` (R229). -/
def execLenSlot9 (x : Nat) (s : State) : Host.Outcome State Fault Refusal := repLength 9 x s

/-- `len slot 10` (R229). -/
def execLenSlot10 (x : Nat) (s : State) : Host.Outcome State Fault Refusal := repLength 10 x s

/-- `len slot 11` (R229). -/
def execLenSlot11 (x : Nat) (s : State) : Host.Outcome State Fault Refusal := repLength 11 x s

/-- `len slot 12` (R229). -/
def execLenSlot12 (x : Nat) (s : State) : Host.Outcome State Fault Refusal := repLength 12 x s

/-- `len slot 13` (R229). -/
def execLenSlot13 (x : Nat) (s : State) : Host.Outcome State Fault Refusal := repLength 13 x s

/-- `len slot 14` (R229). -/
def execLenSlot14 (x : Nat) (s : State) : Host.Outcome State Fault Refusal := repLength 14 x s

/-- `len slot 15` (R229). -/
def execLenSlot15 (x : Nat) (s : State) : Host.Outcome State Fault Refusal := repLength 15 x s

/-- `len slot 16` (R229). -/
def execLenSlot16 (x : Nat) (s : State) : Host.Outcome State Fault Refusal := repLength 16 x s

/-- `len slot 17` (R229). -/
def execLenSlot17 (x : Nat) (s : State) : Host.Outcome State Fault Refusal := repLength 17 x s

/-- `len slot 18` (R229). -/
def execLenSlot18 (x : Nat) (s : State) : Host.Outcome State Fault Refusal := repLength 18 x s

/-- `len slot 19` (R229). -/
def execLenSlot19 (x : Nat) (s : State) : Host.Outcome State Fault Refusal := repLength 19 x s

/-- `len slot 20` (R229). -/
def execLenSlot20 (x : Nat) (s : State) : Host.Outcome State Fault Refusal := repLength 20 x s

/-- `len slot 21` (R229). -/
def execLenSlot21 (x : Nat) (s : State) : Host.Outcome State Fault Refusal := repLength 21 x s

/-- `len slot 22` (R229). -/
def execLenSlot22 (x : Nat) (s : State) : Host.Outcome State Fault Refusal := repLength 22 x s

/-- `len slot 23` (R229). -/
def execLenSlot23 (x : Nat) (s : State) : Host.Outcome State Fault Refusal := repLength 23 x s

/-- `len slot 24` (R229). -/
def execLenSlot24 (x : Nat) (s : State) : Host.Outcome State Fault Refusal := repLength 24 x s

/-- `len slot 25` (R229). -/
def execLenSlot25 (x : Nat) (s : State) : Host.Outcome State Fault Refusal := repLength 25 x s

/-- `len slot 26` (R229). -/
def execLenSlot26 (x : Nat) (s : State) : Host.Outcome State Fault Refusal := repLength 26 x s

/-- `len slot 27` (R229). -/
def execLenSlot27 (x : Nat) (s : State) : Host.Outcome State Fault Refusal := repLength 27 x s

/-- `len slot 28` (R229). -/
def execLenSlot28 (x : Nat) (s : State) : Host.Outcome State Fault Refusal := repLength 28 x s

/-- `len slot 29` (R229). -/
def execLenSlot29 (x : Nat) (s : State) : Host.Outcome State Fault Refusal := repLength 29 x s

/-- `len slot 30` (R229). -/
def execLenSlot30 (x : Nat) (s : State) : Host.Outcome State Fault Refusal := repLength 30 x s

/-- `len slot 31` (R229). -/
def execLenSlot31 (x : Nat) (s : State) : Host.Outcome State Fault Refusal := repLength 31 x s

/-- `len slot 32` (R229). -/
def execLenSlot32 (x : Nat) (s : State) : Host.Outcome State Fault Refusal := repLength 32 x s

/-- `len slot 33` (R229). -/
def execLenSlot33 (x : Nat) (s : State) : Host.Outcome State Fault Refusal := repLength 33 x s

/-- `len slot 34` (R229). -/
def execLenSlot34 (x : Nat) (s : State) : Host.Outcome State Fault Refusal := repLength 34 x s

/-- `len slot 35` (R229). -/
def execLenSlot35 (x : Nat) (s : State) : Host.Outcome State Fault Refusal := repLength 35 x s

/-- `len slot 36` (R229). -/
def execLenSlot36 (x : Nat) (s : State) : Host.Outcome State Fault Refusal := repLength 36 x s

/-- `len slot 37` (R229). -/
def execLenSlot37 (x : Nat) (s : State) : Host.Outcome State Fault Refusal := repLength 37 x s

/-- `len slot 38` (R229). -/
def execLenSlot38 (x : Nat) (s : State) : Host.Outcome State Fault Refusal := repLength 38 x s

/-- `len slot 39` (R229). -/
def execLenSlot39 (x : Nat) (s : State) : Host.Outcome State Fault Refusal := repLength 39 x s

/-- `len slot 40` (R229). -/
def execLenSlot40 (x : Nat) (s : State) : Host.Outcome State Fault Refusal := repLength 40 x s

/-- `len slot 41` (R229). -/
def execLenSlot41 (x : Nat) (s : State) : Host.Outcome State Fault Refusal := repLength 41 x s

/-- `len slot 42` (R229). -/
def execLenSlot42 (x : Nat) (s : State) : Host.Outcome State Fault Refusal := repLength 42 x s

/-- `len slot 43` (R229). -/
def execLenSlot43 (x : Nat) (s : State) : Host.Outcome State Fault Refusal := repLength 43 x s

/-- `dist slot 0` (R236). -/
def execDistSlot0 (s : State) : Host.Outcome State Fault Refusal := matchDist 0 0 s

/-- `dist slot 1` (R236). -/
def execDistSlot1 (s : State) : Host.Outcome State Fault Refusal := matchDist 1 0 s

/-- `dist slot 2` (R236). -/
def execDistSlot2 (s : State) : Host.Outcome State Fault Refusal := matchDist 2 0 s

/-- `dist slot 3` (R236). -/
def execDistSlot3 (s : State) : Host.Outcome State Fault Refusal := matchDist 3 0 s

/-- `dist slot 4` (R236). -/
def execDistSlot4 (low : Nat) (s : State) : Host.Outcome State Fault Refusal := matchDist 4 low s

/-- `dist slot 5` (R236). -/
def execDistSlot5 (low : Nat) (s : State) : Host.Outcome State Fault Refusal := matchDist 5 low s

/-- `dist slot 6` (R236). -/
def execDistSlot6 (low : Nat) (s : State) : Host.Outcome State Fault Refusal := matchDist 6 low s

/-- `dist slot 7` (R236). -/
def execDistSlot7 (low : Nat) (s : State) : Host.Outcome State Fault Refusal := matchDist 7 low s

/-- `dist slot 8` (R236). -/
def execDistSlot8 (low : Nat) (s : State) : Host.Outcome State Fault Refusal := matchDist 8 low s

/-- `dist slot 9` (R236). -/
def execDistSlot9 (low : Nat) (s : State) : Host.Outcome State Fault Refusal := matchDist 9 low s

/-- `dist slot 10` (R236). -/
def execDistSlot10 (lo4 : Nat) (s : State) : Host.Outcome State Fault Refusal := matchDist 10 (Operands.joinLow 0 lo4) s

/-- `dist slot 11` (R236). -/
def execDistSlot11 (lo4 : Nat) (s : State) : Host.Outcome State Fault Refusal := matchDist 11 (Operands.joinLow 0 lo4) s

/-- `dist slot 12` (R236). -/
def execDistSlot12 (high : Nat) (lo4 : Nat) (s : State) : Host.Outcome State Fault Refusal := matchDist 12 (Operands.joinLow high lo4) s

/-- `dist slot 13` (R236). -/
def execDistSlot13 (high : Nat) (lo4 : Nat) (s : State) : Host.Outcome State Fault Refusal := matchDist 13 (Operands.joinLow high lo4) s

/-- `dist slot 14` (R236). -/
def execDistSlot14 (high : Nat) (lo4 : Nat) (s : State) : Host.Outcome State Fault Refusal := matchDist 14 (Operands.joinLow high lo4) s

/-- `dist slot 15` (R236). -/
def execDistSlot15 (high : Nat) (lo4 : Nat) (s : State) : Host.Outcome State Fault Refusal := matchDist 15 (Operands.joinLow high lo4) s

/-- `dist slot 16` (R236). -/
def execDistSlot16 (high : Nat) (lo4 : Nat) (s : State) : Host.Outcome State Fault Refusal := matchDist 16 (Operands.joinLow high lo4) s

/-- `dist slot 17` (R236). -/
def execDistSlot17 (high : Nat) (lo4 : Nat) (s : State) : Host.Outcome State Fault Refusal := matchDist 17 (Operands.joinLow high lo4) s

/-- `dist slot 18` (R236). -/
def execDistSlot18 (high : Nat) (lo4 : Nat) (s : State) : Host.Outcome State Fault Refusal := matchDist 18 (Operands.joinLow high lo4) s

/-- `dist slot 19` (R236). -/
def execDistSlot19 (high : Nat) (lo4 : Nat) (s : State) : Host.Outcome State Fault Refusal := matchDist 19 (Operands.joinLow high lo4) s

/-- `dist slot 20` (R236). -/
def execDistSlot20 (high : Nat) (lo4 : Nat) (s : State) : Host.Outcome State Fault Refusal := matchDist 20 (Operands.joinLow high lo4) s

/-- `dist slot 21` (R236). -/
def execDistSlot21 (high : Nat) (lo4 : Nat) (s : State) : Host.Outcome State Fault Refusal := matchDist 21 (Operands.joinLow high lo4) s

/-- `dist slot 22` (R236). -/
def execDistSlot22 (high : Nat) (lo4 : Nat) (s : State) : Host.Outcome State Fault Refusal := matchDist 22 (Operands.joinLow high lo4) s

/-- `dist slot 23` (R236). -/
def execDistSlot23 (high : Nat) (lo4 : Nat) (s : State) : Host.Outcome State Fault Refusal := matchDist 23 (Operands.joinLow high lo4) s

/-- `dist slot 24` (R236). -/
def execDistSlot24 (high : Nat) (lo4 : Nat) (s : State) : Host.Outcome State Fault Refusal := matchDist 24 (Operands.joinLow high lo4) s

/-- `dist slot 25` (R236). -/
def execDistSlot25 (high : Nat) (lo4 : Nat) (s : State) : Host.Outcome State Fault Refusal := matchDist 25 (Operands.joinLow high lo4) s

/-- `dist slot 26` (R236). -/
def execDistSlot26 (high : Nat) (lo4 : Nat) (s : State) : Host.Outcome State Fault Refusal := matchDist 26 (Operands.joinLow high lo4) s

/-- `dist slot 27` (R236). -/
def execDistSlot27 (high : Nat) (lo4 : Nat) (s : State) : Host.Outcome State Fault Refusal := matchDist 27 (Operands.joinLow high lo4) s

/-- `dist slot 28` (R236). -/
def execDistSlot28 (high : Nat) (lo4 : Nat) (s : State) : Host.Outcome State Fault Refusal := matchDist 28 (Operands.joinLow high lo4) s

/-- `dist slot 29` (R236). -/
def execDistSlot29 (high : Nat) (lo4 : Nat) (s : State) : Host.Outcome State Fault Refusal := matchDist 29 (Operands.joinLow high lo4) s

/-- `dist slot 30` (R236). -/
def execDistSlot30 (high : Nat) (lo4 : Nat) (s : State) : Host.Outcome State Fault Refusal := matchDist 30 (Operands.joinLow high lo4) s

/-- `dist slot 31` (R236). -/
def execDistSlot31 (high : Nat) (lo4 : Nat) (s : State) : Host.Outcome State Fault Refusal := matchDist 31 (Operands.joinLow high lo4) s

/-- `dist slot 32` (R236). -/
def execDistSlot32 (high : Nat) (lo4 : Nat) (s : State) : Host.Outcome State Fault Refusal := matchDist 32 (Operands.joinLow high lo4) s

/-- `dist slot 33` (R236). -/
def execDistSlot33 (high : Nat) (lo4 : Nat) (s : State) : Host.Outcome State Fault Refusal := matchDist 33 (Operands.joinLow high lo4) s

/-- `dist slot 34` (R236). -/
def execDistSlot34 (high : Nat) (lo4 : Nat) (s : State) : Host.Outcome State Fault Refusal := matchDist 34 (Operands.joinLow high lo4) s

/-- `dist slot 35` (R236). -/
def execDistSlot35 (high : Nat) (lo4 : Nat) (s : State) : Host.Outcome State Fault Refusal := matchDist 35 (Operands.joinLow high lo4) s

/-- `dist slot 36` (R236). -/
def execDistSlot36 (high : Nat) (lo4 : Nat) (s : State) : Host.Outcome State Fault Refusal := matchDist 36 (Operands.joinLow high lo4) s

/-- `dist slot 37` (R236). -/
def execDistSlot37 (high : Nat) (lo4 : Nat) (s : State) : Host.Outcome State Fault Refusal := matchDist 37 (Operands.joinLow high lo4) s

/-- `dist slot 38` (R236). -/
def execDistSlot38 (high : Nat) (lo4 : Nat) (s : State) : Host.Outcome State Fault Refusal := matchDist 38 (Operands.joinLow high lo4) s

/-- `dist slot 39` (R236). -/
def execDistSlot39 (high : Nat) (lo4 : Nat) (s : State) : Host.Outcome State Fault Refusal := matchDist 39 (Operands.joinLow high lo4) s

/-- `dist slot 40` (R236). -/
def execDistSlot40 (high : Nat) (lo4 : Nat) (s : State) : Host.Outcome State Fault Refusal := matchDist 40 (Operands.joinLow high lo4) s

/-- `dist slot 41` (R236). -/
def execDistSlot41 (high : Nat) (lo4 : Nat) (s : State) : Host.Outcome State Fault Refusal := matchDist 41 (Operands.joinLow high lo4) s

/-- `dist slot 42` (R236). -/
def execDistSlot42 (high : Nat) (lo4 : Nat) (s : State) : Host.Outcome State Fault Refusal := matchDist 42 (Operands.joinLow high lo4) s

/-- `dist slot 43` (R236). -/
def execDistSlot43 (high : Nat) (lo4 : Nat) (s : State) : Host.Outcome State Fault Refusal := matchDist 43 (Operands.joinLow high lo4) s

/-- `dist slot 44` (R236). -/
def execDistSlot44 (high : Nat) (lo4 : Nat) (s : State) : Host.Outcome State Fault Refusal := matchDist 44 (Operands.joinLow high lo4) s

/-- `dist slot 45` (R236). -/
def execDistSlot45 (high : Nat) (lo4 : Nat) (s : State) : Host.Outcome State Fault Refusal := matchDist 45 (Operands.joinLow high lo4) s

/-- `dist slot 46` (R236). -/
def execDistSlot46 (high : Nat) (lo4 : Nat) (s : State) : Host.Outcome State Fault Refusal := matchDist 46 (Operands.joinLow high lo4) s

/-- `dist slot 47` (R236). -/
def execDistSlot47 (high : Nat) (lo4 : Nat) (s : State) : Host.Outcome State Fault Refusal := matchDist 47 (Operands.joinLow high lo4) s

/-- `dist slot 48` (R236). -/
def execDistSlot48 (high : Nat) (lo4 : Nat) (s : State) : Host.Outcome State Fault Refusal := matchDist 48 (Operands.joinLow high lo4) s

/-- `dist slot 49` (R236). -/
def execDistSlot49 (high : Nat) (lo4 : Nat) (s : State) : Host.Outcome State Fault Refusal := matchDist 49 (Operands.joinLow high lo4) s

/-- `dist slot 50` (R236). -/
def execDistSlot50 (high : Nat) (lo4 : Nat) (s : State) : Host.Outcome State Fault Refusal := matchDist 50 (Operands.joinLow high lo4) s

/-- `dist slot 51` (R236). -/
def execDistSlot51 (high : Nat) (lo4 : Nat) (s : State) : Host.Outcome State Fault Refusal := matchDist 51 (Operands.joinLow high lo4) s

/-- `dist slot 52` (R236). -/
def execDistSlot52 (high : Nat) (lo4 : Nat) (s : State) : Host.Outcome State Fault Refusal := matchDist 52 (Operands.joinLow high lo4) s

/-- `dist slot 53` (R236). -/
def execDistSlot53 (high : Nat) (lo4 : Nat) (s : State) : Host.Outcome State Fault Refusal := matchDist 53 (Operands.joinLow high lo4) s

/-- `dist slot 54` (R236). -/
def execDistSlot54 (high : Nat) (lo4 : Nat) (s : State) : Host.Outcome State Fault Refusal := matchDist 54 (Operands.joinLow high lo4) s

/-- `dist slot 55` (R236). -/
def execDistSlot55 (high : Nat) (lo4 : Nat) (s : State) : Host.Outcome State Fault Refusal := matchDist 55 (Operands.joinLow high lo4) s

/-- `dist slot 56` (R236). -/
def execDistSlot56 (high : Nat) (lo4 : Nat) (s : State) : Host.Outcome State Fault Refusal := matchDist 56 (Operands.joinLow high lo4) s

/-- `dist slot 57` (R236). -/
def execDistSlot57 (high : Nat) (lo4 : Nat) (s : State) : Host.Outcome State Fault Refusal := matchDist 57 (Operands.joinLow high lo4) s

/-- `dist slot 58` (R236). -/
def execDistSlot58 (high : Nat) (lo4 : Nat) (s : State) : Host.Outcome State Fault Refusal := matchDist 58 (Operands.joinLow high lo4) s

/-- `dist slot 59` (R236). -/
def execDistSlot59 (high : Nat) (lo4 : Nat) (s : State) : Host.Outcome State Fault Refusal := matchDist 59 (Operands.joinLow high lo4) s

/-- `dist slot 60` (R236). -/
def execDistSlot60 (high : Nat) (lo4 : Nat) (s : State) : Host.Outcome State Fault Refusal := matchDist 60 (Operands.joinLow high lo4) s

/-- `dist slot 61` (R236). -/
def execDistSlot61 (high : Nat) (lo4 : Nat) (s : State) : Host.Outcome State Fault Refusal := matchDist 61 (Operands.joinLow high lo4) s

/-- `dist slot 62` (R235). -/
def execDistSlot62 (s : State) : Host.Outcome State Fault Refusal := matchDist 62 0 s

/-- `dist slot 63` (R235). -/
def execDistSlot63 (s : State) : Host.Outcome State Fault Refusal := matchDist 63 0 s

/-- `dist slot 64` (R235). -/
def execDistSlot64 (s : State) : Host.Outcome State Fault Refusal := matchDist 64 0 s

/-- `dist slot 65` (R235). -/
def execDistSlot65 (s : State) : Host.Outcome State Fault Refusal := matchDist 65 0 s

/-- `dist slot 66` (R235). -/
def execDistSlot66 (s : State) : Host.Outcome State Fault Refusal := matchDist 66 0 s

/-- `dist slot 67` (R235). -/
def execDistSlot67 (s : State) : Host.Outcome State Fault Refusal := matchDist 67 0 s

/-- `dist slot 68` (R235). -/
def execDistSlot68 (s : State) : Host.Outcome State Fault Refusal := matchDist 68 0 s

/-- `dist slot 69` (R235). -/
def execDistSlot69 (s : State) : Host.Outcome State Fault Refusal := matchDist 69 0 s

/-- `dist slot 70` (R235). -/
def execDistSlot70 (s : State) : Host.Outcome State Fault Refusal := matchDist 70 0 s

/-- `dist slot 71` (R235). -/
def execDistSlot71 (s : State) : Host.Outcome State Fault Refusal := matchDist 71 0 s

/-- `dist slot 72` (R235). -/
def execDistSlot72 (s : State) : Host.Outcome State Fault Refusal := matchDist 72 0 s

/-- `dist slot 73` (R235). -/
def execDistSlot73 (s : State) : Host.Outcome State Fault Refusal := matchDist 73 0 s

/-- `dist slot 74` (R235). -/
def execDistSlot74 (s : State) : Host.Outcome State Fault Refusal := matchDist 74 0 s

/-- `dist slot 75` (R235). -/
def execDistSlot75 (s : State) : Host.Outcome State Fault Refusal := matchDist 75 0 s

/-- `dist slot 76` (R235). -/
def execDistSlot76 (s : State) : Host.Outcome State Fault Refusal := matchDist 76 0 s

/-- `dist slot 77` (R235). -/
def execDistSlot77 (s : State) : Host.Outcome State Fault Refusal := matchDist 77 0 s

/-- `dist slot 78` (R235). -/
def execDistSlot78 (s : State) : Host.Outcome State Fault Refusal := matchDist 78 0 s

/-- `dist slot 79` (R235). -/
def execDistSlot79 (s : State) : Host.Outcome State Fault Refusal := matchDist 79 0 s

end Sys2Proof.Machine
end

