-- ==== Sys2Proof/Machine/Symbols.lean ====
section
/-! DEFINITION. The main-alphabet elements (43_lz_symbols.md R227 to R245, section 4). -/

namespace Sys2Proof.Machine

/-- The start of a filter descriptor (R231, R263, R267): a saturated queue is drained and, if that does not help, emptied with
the flag set; then the descriptor's first field comes. -/
def beginDescriptor (s : State) : Flow State :=
  (if Config.filterQueueMax ≤ s.queue.length then
    (flush s).bind fun s' =>
      if Config.filterQueueMax ≤ s'.queue.length then .ok { s' with isUnsupportedFilter := true, queue := [], fb := [] } else .ok s'
  else .ok s).bind fun s' => .ok { s' with phase := .vuDelta }

/-- `REPk` up to its length (R240 to R243): the registers are permuted before the length is decoded, so the distance to use is
`repDist[0]` from here on. -/
def useRep (k : Nat) (s : State) : State := { s with repDist := s.repDist.moveToFront k, phase := .lenSlot }

/-- `MATCH` up to its distance (R244): the length of the slot and its extra bits. -/
def matchLength (slot x : Nat) (s : State) : State := { s with pendLen := Operands.slotToLen slot x, phase := .distSlot }

/-- `LIT b` (R230). -/
def execLit (b : Byte) (s : State) : Host.Outcome State Fault Refusal := (putByte b s).outcome

/-- `FILTER delta, size, type [, channels]` (R231), the dispatch; the descriptor follows (R263). -/
def execFilter (s : State) : Host.Outcome State Fault Refusal := (beginDescriptor s).outcome

/-- `LASTLEN` (R239): nothing where no match has set a length. -/
def execLastlen (s : State) : Host.Outcome State Fault Refusal := 
  if s.lastLength = 0 then .next s else (copyMatch s.repDist.r0.toNat s.lastLength s).outcome

/-- `REP0 len` (R240). -/
def execRep0 (s : State) : Host.Outcome State Fault Refusal := .next (useRep 0 s)

/-- `REP1 len` (R241). -/
def execRep1 (s : State) : Host.Outcome State Fault Refusal := .next (useRep 1 s)

/-- `REP2 len` (R242). -/
def execRep2 (s : State) : Host.Outcome State Fault Refusal := .next (useRep 2 s)

/-- `REP3 len` (R243). -/
def execRep3 (s : State) : Host.Outcome State Fault Refusal := .next (useRep 3 s)

/-- `MATCH len, dist (len slot 0)` (R244). -/
def execMatchSlot0 (s : State) : Host.Outcome State Fault Refusal := .next (matchLength 0 0 s)

/-- `MATCH len, dist (len slot 1)` (R244). -/
def execMatchSlot1 (s : State) : Host.Outcome State Fault Refusal := .next (matchLength 1 0 s)

/-- `MATCH len, dist (len slot 2)` (R244). -/
def execMatchSlot2 (s : State) : Host.Outcome State Fault Refusal := .next (matchLength 2 0 s)

/-- `MATCH len, dist (len slot 3)` (R244). -/
def execMatchSlot3 (s : State) : Host.Outcome State Fault Refusal := .next (matchLength 3 0 s)

/-- `MATCH len, dist (len slot 4)` (R244). -/
def execMatchSlot4 (s : State) : Host.Outcome State Fault Refusal := .next (matchLength 4 0 s)

/-- `MATCH len, dist (len slot 5)` (R244). -/
def execMatchSlot5 (s : State) : Host.Outcome State Fault Refusal := .next (matchLength 5 0 s)

/-- `MATCH len, dist (len slot 6)` (R244). -/
def execMatchSlot6 (s : State) : Host.Outcome State Fault Refusal := .next (matchLength 6 0 s)

/-- `MATCH len, dist (len slot 7)` (R244). -/
def execMatchSlot7 (s : State) : Host.Outcome State Fault Refusal := .next (matchLength 7 0 s)

/-- `MATCH len, dist (len slot 8)` (R244). -/
def execMatchSlot8 (x : Nat) (s : State) : Host.Outcome State Fault Refusal := .next (matchLength 8 x s)

/-- `MATCH len, dist (len slot 9)` (R244). -/
def execMatchSlot9 (x : Nat) (s : State) : Host.Outcome State Fault Refusal := .next (matchLength 9 x s)

/-- `MATCH len, dist (len slot 10)` (R244). -/
def execMatchSlot10 (x : Nat) (s : State) : Host.Outcome State Fault Refusal := .next (matchLength 10 x s)

/-- `MATCH len, dist (len slot 11)` (R244). -/
def execMatchSlot11 (x : Nat) (s : State) : Host.Outcome State Fault Refusal := .next (matchLength 11 x s)

/-- `MATCH len, dist (len slot 12)` (R244). -/
def execMatchSlot12 (x : Nat) (s : State) : Host.Outcome State Fault Refusal := .next (matchLength 12 x s)

/-- `MATCH len, dist (len slot 13)` (R244). -/
def execMatchSlot13 (x : Nat) (s : State) : Host.Outcome State Fault Refusal := .next (matchLength 13 x s)

/-- `MATCH len, dist (len slot 14)` (R244). -/
def execMatchSlot14 (x : Nat) (s : State) : Host.Outcome State Fault Refusal := .next (matchLength 14 x s)

/-- `MATCH len, dist (len slot 15)` (R244). -/
def execMatchSlot15 (x : Nat) (s : State) : Host.Outcome State Fault Refusal := .next (matchLength 15 x s)

/-- `MATCH len, dist (len slot 16)` (R244). -/
def execMatchSlot16 (x : Nat) (s : State) : Host.Outcome State Fault Refusal := .next (matchLength 16 x s)

/-- `MATCH len, dist (len slot 17)` (R244). -/
def execMatchSlot17 (x : Nat) (s : State) : Host.Outcome State Fault Refusal := .next (matchLength 17 x s)

/-- `MATCH len, dist (len slot 18)` (R244). -/
def execMatchSlot18 (x : Nat) (s : State) : Host.Outcome State Fault Refusal := .next (matchLength 18 x s)

/-- `MATCH len, dist (len slot 19)` (R244). -/
def execMatchSlot19 (x : Nat) (s : State) : Host.Outcome State Fault Refusal := .next (matchLength 19 x s)

/-- `MATCH len, dist (len slot 20)` (R244). -/
def execMatchSlot20 (x : Nat) (s : State) : Host.Outcome State Fault Refusal := .next (matchLength 20 x s)

/-- `MATCH len, dist (len slot 21)` (R244). -/
def execMatchSlot21 (x : Nat) (s : State) : Host.Outcome State Fault Refusal := .next (matchLength 21 x s)

/-- `MATCH len, dist (len slot 22)` (R244). -/
def execMatchSlot22 (x : Nat) (s : State) : Host.Outcome State Fault Refusal := .next (matchLength 22 x s)

/-- `MATCH len, dist (len slot 23)` (R244). -/
def execMatchSlot23 (x : Nat) (s : State) : Host.Outcome State Fault Refusal := .next (matchLength 23 x s)

/-- `MATCH len, dist (len slot 24)` (R244). -/
def execMatchSlot24 (x : Nat) (s : State) : Host.Outcome State Fault Refusal := .next (matchLength 24 x s)

/-- `MATCH len, dist (len slot 25)` (R244). -/
def execMatchSlot25 (x : Nat) (s : State) : Host.Outcome State Fault Refusal := .next (matchLength 25 x s)

/-- `MATCH len, dist (len slot 26)` (R244). -/
def execMatchSlot26 (x : Nat) (s : State) : Host.Outcome State Fault Refusal := .next (matchLength 26 x s)

/-- `MATCH len, dist (len slot 27)` (R244). -/
def execMatchSlot27 (x : Nat) (s : State) : Host.Outcome State Fault Refusal := .next (matchLength 27 x s)

/-- `MATCH len, dist (len slot 28)` (R244). -/
def execMatchSlot28 (x : Nat) (s : State) : Host.Outcome State Fault Refusal := .next (matchLength 28 x s)

/-- `MATCH len, dist (len slot 29)` (R244). -/
def execMatchSlot29 (x : Nat) (s : State) : Host.Outcome State Fault Refusal := .next (matchLength 29 x s)

/-- `MATCH len, dist (len slot 30)` (R244). -/
def execMatchSlot30 (x : Nat) (s : State) : Host.Outcome State Fault Refusal := .next (matchLength 30 x s)

/-- `MATCH len, dist (len slot 31)` (R244). -/
def execMatchSlot31 (x : Nat) (s : State) : Host.Outcome State Fault Refusal := .next (matchLength 31 x s)

/-- `MATCH len, dist (len slot 32)` (R244). -/
def execMatchSlot32 (x : Nat) (s : State) : Host.Outcome State Fault Refusal := .next (matchLength 32 x s)

/-- `MATCH len, dist (len slot 33)` (R244). -/
def execMatchSlot33 (x : Nat) (s : State) : Host.Outcome State Fault Refusal := .next (matchLength 33 x s)

/-- `MATCH len, dist (len slot 34)` (R244). -/
def execMatchSlot34 (x : Nat) (s : State) : Host.Outcome State Fault Refusal := .next (matchLength 34 x s)

/-- `MATCH len, dist (len slot 35)` (R244). -/
def execMatchSlot35 (x : Nat) (s : State) : Host.Outcome State Fault Refusal := .next (matchLength 35 x s)

/-- `MATCH len, dist (len slot 36)` (R244). -/
def execMatchSlot36 (x : Nat) (s : State) : Host.Outcome State Fault Refusal := .next (matchLength 36 x s)

/-- `MATCH len, dist (len slot 37)` (R244). -/
def execMatchSlot37 (x : Nat) (s : State) : Host.Outcome State Fault Refusal := .next (matchLength 37 x s)

/-- `MATCH len, dist (len slot 38)` (R244). -/
def execMatchSlot38 (x : Nat) (s : State) : Host.Outcome State Fault Refusal := .next (matchLength 38 x s)

/-- `MATCH len, dist (len slot 39)` (R244). -/
def execMatchSlot39 (x : Nat) (s : State) : Host.Outcome State Fault Refusal := .next (matchLength 39 x s)

/-- `MATCH len, dist (len slot 40)` (R244). -/
def execMatchSlot40 (x : Nat) (s : State) : Host.Outcome State Fault Refusal := .next (matchLength 40 x s)

/-- `MATCH len, dist (len slot 41)` (R244). -/
def execMatchSlot41 (x : Nat) (s : State) : Host.Outcome State Fault Refusal := .next (matchLength 41 x s)

/-- `MATCH len, dist (len slot 42)` (R244). -/
def execMatchSlot42 (x : Nat) (s : State) : Host.Outcome State Fault Refusal := .next (matchLength 42 x s)

/-- `MATCH len, dist (len slot 43)` (R244). -/
def execMatchSlot43 (x : Nat) (s : State) : Host.Outcome State Fault Refusal := .next (matchLength 43 x s)

/-- `(reserved main symbol 306)` (R228). -/
def execReserved306 (s : State) : Host.Outcome State Fault Refusal := takeError .corruptedData s

/-- `(reserved main symbol 307)` (R228). -/
def execReserved307 (s : State) : Host.Outcome State Fault Refusal := takeError .corruptedData s

/-- `(reserved main symbol 308)` (R228). -/
def execReserved308 (s : State) : Host.Outcome State Fault Refusal := takeError .corruptedData s

/-- `(reserved main symbol 309)` (R228). -/
def execReserved309 (s : State) : Host.Outcome State Fault Refusal := takeError .corruptedData s

/-- `(reserved main symbol 310)` (R228). -/
def execReserved310 (s : State) : Host.Outcome State Fault Refusal := takeError .corruptedData s

/-- `(reserved main symbol 311)` (R228). -/
def execReserved311 (s : State) : Host.Outcome State Fault Refusal := takeError .corruptedData s

end Sys2Proof.Machine
end

