-- ==== Sys2Proof/Machine/Dispatch.lean ====
section
/-! DEFINITION. One arm per instruction: the meaning of each. -/

namespace Sys2Proof.Machine

def exec (i : Instr) (s : State) : Host.Outcome State Fault Refusal :=
  match i with
  | .props r0 pow frac r1 v7 solid => Sys2Proof.Machine.execProps r0 pow frac r1 v7 solid s
  | .blkhdr0 b7m1 r5 last tables cx s0 => Sys2Proof.Machine.execBlkhdr0 b7m1 r5 last tables cx s0 s
  | .blkhdr1 b7m1 r5 last tables cx s0 s1 => Sys2Proof.Machine.execBlkhdr1 b7m1 r5 last tables cx s0 s1 s
  | .blkhdr2 b7m1 r5 last tables cx s0 s1 s2 => Sys2Proof.Machine.execBlkhdr2 b7m1 r5 last tables cx s0 s1 s2 s
  | .blkhdrNum3 b7m1 r5 last tables cx => Sys2Proof.Machine.execBlkhdrNum3 b7m1 r5 last tables cx s
  | .lvlNib0 => Sys2Proof.Machine.execLvlNib0 s
  | .lvlNib1 => Sys2Proof.Machine.execLvlNib1 s
  | .lvlNib2 => Sys2Proof.Machine.execLvlNib2 s
  | .lvlNib3 => Sys2Proof.Machine.execLvlNib3 s
  | .lvlNib4 => Sys2Proof.Machine.execLvlNib4 s
  | .lvlNib5 => Sys2Proof.Machine.execLvlNib5 s
  | .lvlNib6 => Sys2Proof.Machine.execLvlNib6 s
  | .lvlNib7 => Sys2Proof.Machine.execLvlNib7 s
  | .lvlNib8 => Sys2Proof.Machine.execLvlNib8 s
  | .lvlNib9 => Sys2Proof.Machine.execLvlNib9 s
  | .lvlNib10 => Sys2Proof.Machine.execLvlNib10 s
  | .lvlNib11 => Sys2Proof.Machine.execLvlNib11 s
  | .lvlNib12 => Sys2Proof.Machine.execLvlNib12 s
  | .lvlNib13 => Sys2Proof.Machine.execLvlNib13 s
  | .lvlNib14 => Sys2Proof.Machine.execLvlNib14 s
  | .lvlEsc => Sys2Proof.Machine.execLvlEsc s
  | .lvlNib15 => Sys2Proof.Machine.execLvlNib15 s
  | .lvlZrun1 => Sys2Proof.Machine.execLvlZrun1 s
  | .lvlZrun2 => Sys2Proof.Machine.execLvlZrun2 s
  | .lvlZrun3 => Sys2Proof.Machine.execLvlZrun3 s
  | .lvlZrun4 => Sys2Proof.Machine.execLvlZrun4 s
  | .lvlZrun5 => Sys2Proof.Machine.execLvlZrun5 s
  | .lvlZrun6 => Sys2Proof.Machine.execLvlZrun6 s
  | .lvlZrun7 => Sys2Proof.Machine.execLvlZrun7 s
  | .lvlZrun8 => Sys2Proof.Machine.execLvlZrun8 s
  | .lvlZrun9 => Sys2Proof.Machine.execLvlZrun9 s
  | .lvlZrun10 => Sys2Proof.Machine.execLvlZrun10 s
  | .lvlZrun11 => Sys2Proof.Machine.execLvlZrun11 s
  | .lvlZrun12 => Sys2Proof.Machine.execLvlZrun12 s
  | .lvlZrun13 => Sys2Proof.Machine.execLvlZrun13 s
  | .lvlZrun14 => Sys2Proof.Machine.execLvlZrun14 s
  | .lvlZrun15 => Sys2Proof.Machine.execLvlZrun15 s
  | .lvLen0 => Sys2Proof.Machine.execLvLen0 s
  | .lvLen1 => Sys2Proof.Machine.execLvLen1 s
  | .lvLen2 => Sys2Proof.Machine.execLvLen2 s
  | .lvLen3 => Sys2Proof.Machine.execLvLen3 s
  | .lvLen4 => Sys2Proof.Machine.execLvLen4 s
  | .lvLen5 => Sys2Proof.Machine.execLvLen5 s
  | .lvLen6 => Sys2Proof.Machine.execLvLen6 s
  | .lvLen7 => Sys2Proof.Machine.execLvLen7 s
  | .lvLen8 => Sys2Proof.Machine.execLvLen8 s
  | .lvLen9 => Sys2Proof.Machine.execLvLen9 s
  | .lvLen10 => Sys2Proof.Machine.execLvLen10 s
  | .lvLen11 => Sys2Proof.Machine.execLvLen11 s
  | .lvLen12 => Sys2Proof.Machine.execLvLen12 s
  | .lvLen13 => Sys2Proof.Machine.execLvLen13 s
  | .lvLen14 => Sys2Proof.Machine.execLvLen14 s
  | .lvLen15 => Sys2Proof.Machine.execLvLen15 s
  | .lvRepS e => Sys2Proof.Machine.execLvRepS e s
  | .lvRepL e => Sys2Proof.Machine.execLvRepL e s
  | .lvZeroS e => Sys2Proof.Machine.execLvZeroS e s
  | .lvZeroL e => Sys2Proof.Machine.execLvZeroL e s
  | .lit b => Sys2Proof.Machine.execLit b s
  | .filter => Sys2Proof.Machine.execFilter s
  | .lastlen => Sys2Proof.Machine.execLastlen s
  | .rep0 => Sys2Proof.Machine.execRep0 s
  | .rep1 => Sys2Proof.Machine.execRep1 s
  | .rep2 => Sys2Proof.Machine.execRep2 s
  | .rep3 => Sys2Proof.Machine.execRep3 s
  | .matchSlot0 => Sys2Proof.Machine.execMatchSlot0 s
  | .matchSlot1 => Sys2Proof.Machine.execMatchSlot1 s
  | .matchSlot2 => Sys2Proof.Machine.execMatchSlot2 s
  | .matchSlot3 => Sys2Proof.Machine.execMatchSlot3 s
  | .matchSlot4 => Sys2Proof.Machine.execMatchSlot4 s
  | .matchSlot5 => Sys2Proof.Machine.execMatchSlot5 s
  | .matchSlot6 => Sys2Proof.Machine.execMatchSlot6 s
  | .matchSlot7 => Sys2Proof.Machine.execMatchSlot7 s
  | .matchSlot8 x => Sys2Proof.Machine.execMatchSlot8 x s
  | .matchSlot9 x => Sys2Proof.Machine.execMatchSlot9 x s
  | .matchSlot10 x => Sys2Proof.Machine.execMatchSlot10 x s
  | .matchSlot11 x => Sys2Proof.Machine.execMatchSlot11 x s
  | .matchSlot12 x => Sys2Proof.Machine.execMatchSlot12 x s
  | .matchSlot13 x => Sys2Proof.Machine.execMatchSlot13 x s
  | .matchSlot14 x => Sys2Proof.Machine.execMatchSlot14 x s
  | .matchSlot15 x => Sys2Proof.Machine.execMatchSlot15 x s
  | .matchSlot16 x => Sys2Proof.Machine.execMatchSlot16 x s
  | .matchSlot17 x => Sys2Proof.Machine.execMatchSlot17 x s
  | .matchSlot18 x => Sys2Proof.Machine.execMatchSlot18 x s
  | .matchSlot19 x => Sys2Proof.Machine.execMatchSlot19 x s
  | .matchSlot20 x => Sys2Proof.Machine.execMatchSlot20 x s
  | .matchSlot21 x => Sys2Proof.Machine.execMatchSlot21 x s
  | .matchSlot22 x => Sys2Proof.Machine.execMatchSlot22 x s
  | .matchSlot23 x => Sys2Proof.Machine.execMatchSlot23 x s
  | .matchSlot24 x => Sys2Proof.Machine.execMatchSlot24 x s
  | .matchSlot25 x => Sys2Proof.Machine.execMatchSlot25 x s
  | .matchSlot26 x => Sys2Proof.Machine.execMatchSlot26 x s
  | .matchSlot27 x => Sys2Proof.Machine.execMatchSlot27 x s
  | .matchSlot28 x => Sys2Proof.Machine.execMatchSlot28 x s
  | .matchSlot29 x => Sys2Proof.Machine.execMatchSlot29 x s
  | .matchSlot30 x => Sys2Proof.Machine.execMatchSlot30 x s
  | .matchSlot31 x => Sys2Proof.Machine.execMatchSlot31 x s
  | .matchSlot32 x => Sys2Proof.Machine.execMatchSlot32 x s
  | .matchSlot33 x => Sys2Proof.Machine.execMatchSlot33 x s
  | .matchSlot34 x => Sys2Proof.Machine.execMatchSlot34 x s
  | .matchSlot35 x => Sys2Proof.Machine.execMatchSlot35 x s
  | .matchSlot36 x => Sys2Proof.Machine.execMatchSlot36 x s
  | .matchSlot37 x => Sys2Proof.Machine.execMatchSlot37 x s
  | .matchSlot38 x => Sys2Proof.Machine.execMatchSlot38 x s
  | .matchSlot39 x => Sys2Proof.Machine.execMatchSlot39 x s
  | .matchSlot40 x => Sys2Proof.Machine.execMatchSlot40 x s
  | .matchSlot41 x => Sys2Proof.Machine.execMatchSlot41 x s
  | .matchSlot42 x => Sys2Proof.Machine.execMatchSlot42 x s
  | .matchSlot43 x => Sys2Proof.Machine.execMatchSlot43 x s
  | .reserved306 => Sys2Proof.Machine.execReserved306 s
  | .reserved307 => Sys2Proof.Machine.execReserved307 s
  | .reserved308 => Sys2Proof.Machine.execReserved308 s
  | .reserved309 => Sys2Proof.Machine.execReserved309 s
  | .reserved310 => Sys2Proof.Machine.execReserved310 s
  | .reserved311 => Sys2Proof.Machine.execReserved311 s
  | .lenSlot0 => Sys2Proof.Machine.execLenSlot0 s
  | .lenSlot1 => Sys2Proof.Machine.execLenSlot1 s
  | .lenSlot2 => Sys2Proof.Machine.execLenSlot2 s
  | .lenSlot3 => Sys2Proof.Machine.execLenSlot3 s
  | .lenSlot4 => Sys2Proof.Machine.execLenSlot4 s
  | .lenSlot5 => Sys2Proof.Machine.execLenSlot5 s
  | .lenSlot6 => Sys2Proof.Machine.execLenSlot6 s
  | .lenSlot7 => Sys2Proof.Machine.execLenSlot7 s
  | .lenSlot8 x => Sys2Proof.Machine.execLenSlot8 x s
  | .lenSlot9 x => Sys2Proof.Machine.execLenSlot9 x s
  | .lenSlot10 x => Sys2Proof.Machine.execLenSlot10 x s
  | .lenSlot11 x => Sys2Proof.Machine.execLenSlot11 x s
  | .lenSlot12 x => Sys2Proof.Machine.execLenSlot12 x s
  | .lenSlot13 x => Sys2Proof.Machine.execLenSlot13 x s
  | .lenSlot14 x => Sys2Proof.Machine.execLenSlot14 x s
  | .lenSlot15 x => Sys2Proof.Machine.execLenSlot15 x s
  | .lenSlot16 x => Sys2Proof.Machine.execLenSlot16 x s
  | .lenSlot17 x => Sys2Proof.Machine.execLenSlot17 x s
  | .lenSlot18 x => Sys2Proof.Machine.execLenSlot18 x s
  | .lenSlot19 x => Sys2Proof.Machine.execLenSlot19 x s
  | .lenSlot20 x => Sys2Proof.Machine.execLenSlot20 x s
  | .lenSlot21 x => Sys2Proof.Machine.execLenSlot21 x s
  | .lenSlot22 x => Sys2Proof.Machine.execLenSlot22 x s
  | .lenSlot23 x => Sys2Proof.Machine.execLenSlot23 x s
  | .lenSlot24 x => Sys2Proof.Machine.execLenSlot24 x s
  | .lenSlot25 x => Sys2Proof.Machine.execLenSlot25 x s
  | .lenSlot26 x => Sys2Proof.Machine.execLenSlot26 x s
  | .lenSlot27 x => Sys2Proof.Machine.execLenSlot27 x s
  | .lenSlot28 x => Sys2Proof.Machine.execLenSlot28 x s
  | .lenSlot29 x => Sys2Proof.Machine.execLenSlot29 x s
  | .lenSlot30 x => Sys2Proof.Machine.execLenSlot30 x s
  | .lenSlot31 x => Sys2Proof.Machine.execLenSlot31 x s
  | .lenSlot32 x => Sys2Proof.Machine.execLenSlot32 x s
  | .lenSlot33 x => Sys2Proof.Machine.execLenSlot33 x s
  | .lenSlot34 x => Sys2Proof.Machine.execLenSlot34 x s
  | .lenSlot35 x => Sys2Proof.Machine.execLenSlot35 x s
  | .lenSlot36 x => Sys2Proof.Machine.execLenSlot36 x s
  | .lenSlot37 x => Sys2Proof.Machine.execLenSlot37 x s
  | .lenSlot38 x => Sys2Proof.Machine.execLenSlot38 x s
  | .lenSlot39 x => Sys2Proof.Machine.execLenSlot39 x s
  | .lenSlot40 x => Sys2Proof.Machine.execLenSlot40 x s
  | .lenSlot41 x => Sys2Proof.Machine.execLenSlot41 x s
  | .lenSlot42 x => Sys2Proof.Machine.execLenSlot42 x s
  | .lenSlot43 x => Sys2Proof.Machine.execLenSlot43 x s
  | .distSlot0 => Sys2Proof.Machine.execDistSlot0 s
  | .distSlot1 => Sys2Proof.Machine.execDistSlot1 s
  | .distSlot2 => Sys2Proof.Machine.execDistSlot2 s
  | .distSlot3 => Sys2Proof.Machine.execDistSlot3 s
  | .distSlot4 low => Sys2Proof.Machine.execDistSlot4 low s
  | .distSlot5 low => Sys2Proof.Machine.execDistSlot5 low s
  | .distSlot6 low => Sys2Proof.Machine.execDistSlot6 low s
  | .distSlot7 low => Sys2Proof.Machine.execDistSlot7 low s
  | .distSlot8 low => Sys2Proof.Machine.execDistSlot8 low s
  | .distSlot9 low => Sys2Proof.Machine.execDistSlot9 low s
  | .distSlot10 lo4 => Sys2Proof.Machine.execDistSlot10 lo4 s
  | .distSlot11 lo4 => Sys2Proof.Machine.execDistSlot11 lo4 s
  | .distSlot12 high lo4 => Sys2Proof.Machine.execDistSlot12 high lo4 s
  | .distSlot13 high lo4 => Sys2Proof.Machine.execDistSlot13 high lo4 s
  | .distSlot14 high lo4 => Sys2Proof.Machine.execDistSlot14 high lo4 s
  | .distSlot15 high lo4 => Sys2Proof.Machine.execDistSlot15 high lo4 s
  | .distSlot16 high lo4 => Sys2Proof.Machine.execDistSlot16 high lo4 s
  | .distSlot17 high lo4 => Sys2Proof.Machine.execDistSlot17 high lo4 s
  | .distSlot18 high lo4 => Sys2Proof.Machine.execDistSlot18 high lo4 s
  | .distSlot19 high lo4 => Sys2Proof.Machine.execDistSlot19 high lo4 s
  | .distSlot20 high lo4 => Sys2Proof.Machine.execDistSlot20 high lo4 s
  | .distSlot21 high lo4 => Sys2Proof.Machine.execDistSlot21 high lo4 s
  | .distSlot22 high lo4 => Sys2Proof.Machine.execDistSlot22 high lo4 s
  | .distSlot23 high lo4 => Sys2Proof.Machine.execDistSlot23 high lo4 s
  | .distSlot24 high lo4 => Sys2Proof.Machine.execDistSlot24 high lo4 s
  | .distSlot25 high lo4 => Sys2Proof.Machine.execDistSlot25 high lo4 s
  | .distSlot26 high lo4 => Sys2Proof.Machine.execDistSlot26 high lo4 s
  | .distSlot27 high lo4 => Sys2Proof.Machine.execDistSlot27 high lo4 s
  | .distSlot28 high lo4 => Sys2Proof.Machine.execDistSlot28 high lo4 s
  | .distSlot29 high lo4 => Sys2Proof.Machine.execDistSlot29 high lo4 s
  | .distSlot30 high lo4 => Sys2Proof.Machine.execDistSlot30 high lo4 s
  | .distSlot31 high lo4 => Sys2Proof.Machine.execDistSlot31 high lo4 s
  | .distSlot32 high lo4 => Sys2Proof.Machine.execDistSlot32 high lo4 s
  | .distSlot33 high lo4 => Sys2Proof.Machine.execDistSlot33 high lo4 s
  | .distSlot34 high lo4 => Sys2Proof.Machine.execDistSlot34 high lo4 s
  | .distSlot35 high lo4 => Sys2Proof.Machine.execDistSlot35 high lo4 s
  | .distSlot36 high lo4 => Sys2Proof.Machine.execDistSlot36 high lo4 s
  | .distSlot37 high lo4 => Sys2Proof.Machine.execDistSlot37 high lo4 s
  | .distSlot38 high lo4 => Sys2Proof.Machine.execDistSlot38 high lo4 s
  | .distSlot39 high lo4 => Sys2Proof.Machine.execDistSlot39 high lo4 s
  | .distSlot40 high lo4 => Sys2Proof.Machine.execDistSlot40 high lo4 s
  | .distSlot41 high lo4 => Sys2Proof.Machine.execDistSlot41 high lo4 s
  | .distSlot42 high lo4 => Sys2Proof.Machine.execDistSlot42 high lo4 s
  | .distSlot43 high lo4 => Sys2Proof.Machine.execDistSlot43 high lo4 s
  | .distSlot44 high lo4 => Sys2Proof.Machine.execDistSlot44 high lo4 s
  | .distSlot45 high lo4 => Sys2Proof.Machine.execDistSlot45 high lo4 s
  | .distSlot46 high lo4 => Sys2Proof.Machine.execDistSlot46 high lo4 s
  | .distSlot47 high lo4 => Sys2Proof.Machine.execDistSlot47 high lo4 s
  | .distSlot48 high lo4 => Sys2Proof.Machine.execDistSlot48 high lo4 s
  | .distSlot49 high lo4 => Sys2Proof.Machine.execDistSlot49 high lo4 s
  | .distSlot50 high lo4 => Sys2Proof.Machine.execDistSlot50 high lo4 s
  | .distSlot51 high lo4 => Sys2Proof.Machine.execDistSlot51 high lo4 s
  | .distSlot52 high lo4 => Sys2Proof.Machine.execDistSlot52 high lo4 s
  | .distSlot53 high lo4 => Sys2Proof.Machine.execDistSlot53 high lo4 s
  | .distSlot54 high lo4 => Sys2Proof.Machine.execDistSlot54 high lo4 s
  | .distSlot55 high lo4 => Sys2Proof.Machine.execDistSlot55 high lo4 s
  | .distSlot56 high lo4 => Sys2Proof.Machine.execDistSlot56 high lo4 s
  | .distSlot57 high lo4 => Sys2Proof.Machine.execDistSlot57 high lo4 s
  | .distSlot58 high lo4 => Sys2Proof.Machine.execDistSlot58 high lo4 s
  | .distSlot59 high lo4 => Sys2Proof.Machine.execDistSlot59 high lo4 s
  | .distSlot60 high lo4 => Sys2Proof.Machine.execDistSlot60 high lo4 s
  | .distSlot61 high lo4 => Sys2Proof.Machine.execDistSlot61 high lo4 s
  | .distSlot62 => Sys2Proof.Machine.execDistSlot62 s
  | .distSlot63 => Sys2Proof.Machine.execDistSlot63 s
  | .distSlot64 => Sys2Proof.Machine.execDistSlot64 s
  | .distSlot65 => Sys2Proof.Machine.execDistSlot65 s
  | .distSlot66 => Sys2Proof.Machine.execDistSlot66 s
  | .distSlot67 => Sys2Proof.Machine.execDistSlot67 s
  | .distSlot68 => Sys2Proof.Machine.execDistSlot68 s
  | .distSlot69 => Sys2Proof.Machine.execDistSlot69 s
  | .distSlot70 => Sys2Proof.Machine.execDistSlot70 s
  | .distSlot71 => Sys2Proof.Machine.execDistSlot71 s
  | .distSlot72 => Sys2Proof.Machine.execDistSlot72 s
  | .distSlot73 => Sys2Proof.Machine.execDistSlot73 s
  | .distSlot74 => Sys2Proof.Machine.execDistSlot74 s
  | .distSlot75 => Sys2Proof.Machine.execDistSlot75 s
  | .distSlot76 => Sys2Proof.Machine.execDistSlot76 s
  | .distSlot77 => Sys2Proof.Machine.execDistSlot77 s
  | .distSlot78 => Sys2Proof.Machine.execDistSlot78 s
  | .distSlot79 => Sys2Proof.Machine.execDistSlot79 s
  | .vu32Sel0 b0 => Sys2Proof.Machine.execVu32Sel0 b0 s
  | .vu32Sel1 b0 b1 => Sys2Proof.Machine.execVu32Sel1 b0 b1 s
  | .vu32Sel2 b0 b1 b2 => Sys2Proof.Machine.execVu32Sel2 b0 b1 b2 s
  | .vu32Sel3 b0 b1 b2 b3 => Sys2Proof.Machine.execVu32Sel3 b0 b1 b2 b3 s
  | .typeDelta channelsM1 => Sys2Proof.Machine.execTypeDelta channelsM1 s
  | .typeE8 => Sys2Proof.Machine.execTypeE8 s
  | .typeE8E9 => Sys2Proof.Machine.execTypeE8E9 s
  | .typeArm => Sys2Proof.Machine.execTypeArm s
  | .type4 => Sys2Proof.Machine.execType4 s
  | .type5 => Sys2Proof.Machine.execType5 s
  | .type6 => Sys2Proof.Machine.execType6 s
  | .type7 => Sys2Proof.Machine.execType7 s

end Sys2Proof.Machine
end

