-- ==== Sys2Proof/Machine/Step.lean ====
section
/-! DEFINITION. One step: an action of the machine between instructions, or the fetch, the move past the instruction's bits and
the instruction's meaning. -/

namespace Sys2Proof.Machine

/-- One step (R85, R395: one stream field, or finer). -/
def step (s : State) : Host.Outcome State Fault Refusal :=
  match before s with
  | .act o => o
  | .go s' => match fetch s' with
    | .ok i n => exec i (s'.passed n)
    | .rejected r n => rejectedFetch r (s'.passed n)

/-- The phase in which a field of a format comes next. -/
def phaseOf : Format → Phase
  | .props => .idle
  | .blockFlags => .header
  | .levelNib => .levelNib
  | .levelNib2 => .levelNib2
  | .levelSym => .levelSym
  | .mainSym => .symbols
  | .lenSlot => .lenSlot
  | .distSlot => .distSlot
  | .vuSel => .vuDelta
  | .filterType => .filterType

/-- The state in which the next step fetches and runs the instruction of a table word (log 1, log 17): it stands at the start of
the source, in a block that goes on behind it, the phase is its format's, and for a Huffman-coded format the decoder in
question holds a code with a word for it. The property bytes are put into a call on CTRL instead. -/
def State.withFetchWord (s : State) (nbits w : Nat) : State :=
  let c := tableCtx s.params nbits w
  match c.fmt with
  | .props => { s with
      phase := .idle
      ctrl := [.decode { DecodeArgs.none with props := BitVec.ofNat 16 w }] }
  | f => { s with
      phase := phaseOf f
      src := { bytes := packBits (tableBits s.params nbits w), ioAt := none }
      pc := 0
      blockEnd := 32
      blockEndBits7 := 0
      sizeDefined := if f = .mainSym then false else s.sizeDefined
      limit := if f = .mainSym then s.windowPos + 1 else s.limit
      lv := if f = .levelNib then [] else s.lv
      tbl := if f = .levelSym then [] else s.tbl
      useAlignBits := if f = .distSlot then false else s.useAlignBits
      level := if f = .levelSym then c.sym else s.level
      huff := match f with
        | .mainSym => { s.huff with main := c.sym }
        | .lenSlot => { s.huff with len := c.sym }
        | .distSlot => { s.huff with dist := c.sym }
        | _ => s.huff }

end Sys2Proof.Machine
end

