-- ==== Sys2Proof/Safety.lean ====
section
/-! DEFINITION. What counts as a safe run, in the terms the statements use: when an operation can go through, what it may have
changed, and the invariants of the machine (10_state.md R23 to R26, R47, R59; 20_memory.md R75, R80). -/

namespace Sys2Proof

/-! Codes. -/

/-- `H` is what `build` makes of an accepted table of `n` lengths (R173, R205). -/
def Huff.builtFor (n : Nat) (H : Huff) : Prop :=
  ∃ F lens, lens.length = n ∧ buildAccepts .fullOrEmpty lens = true ∧ H = Huff.ofLens F lens

/-- `H` holds an accepted code in which symbol `v` has a code word (R174). -/
def Huff.hasWord (H : Huff) (v : Nat) : Prop :=
  ∃ F lens, buildAccepts .partialCode lens = true ∧ H = Huff.ofLens F lens ∧ lens.getD v 0 ≠ 0

/-- The format's table value is a Huffman symbol (R108, R132). -/
def Format.isSymbol : Format → Bool
  | .levelSym => true
  | .mainSym => true
  | .lenSlot => true
  | .distSlot => true
  | _ => false

/-- The context is one in which instruction `i` has an encoding: its parameters are ones a machine can have, its format comes next,
and the decoders in use have code words for the symbols it is made of. -/
structure Writable (c : DecodeCtx) (i : Instr) : Prop where
  params : c.params.wf = true
  format : c.fmt = i.format
  symbol : i.format.isSymbol = true → c.sym.hasWord i.symbol
  align : ∀ H v, c.align = some H → Operands.Field.low4 ∈ fieldsOf c.params i.format i.symbol → i.operands.getLast? = some v → H.hasWord v

/-- A context whose parameters are ones a machine can have and whose decoders hold accepted codes. -/
structure Readable (c : DecodeCtx) : Prop where
  params : c.params.wf = true
  symbol : c.fmt.isSymbol = true → ∃ n, c.sym.builtFor n
  align : ∀ H, c.align = some H → H.builtFor Config.alignSize

end Sys2Proof

namespace Sys2Proof.Machine

/-! When an operation can go through. -/

/-- A file is being decoded. -/
abbrev State.running (s : State) : Prop := s.phase ≠ .idle

/-- Every window index from `a` on and below `b` holds a byte. -/
abbrev State.filled (s : State) (a b : Nat) : Prop := ∀ i, i < b → a ≤ i → s.window.read i ≠ none

/-- The bytes that R80 says have been written: those below the cursor and, after a wrap, those of a whole window. -/
structure State.windowFilled (s : State) : Prop where
  belowCursor : s.filled 0 s.windowPos
  wholeLap : s.lzSize ≠ 0 → s.filled 0 s.windowSize

/-- The flush finds every byte it is to move (R302), and no pending region ends before what has already been moved. -/
structure State.flushable (s : State) : Prop where
  lap : s.lzSize ≤ s.lzWritten
  regions : ∀ f ∈ s.queue, s.lzWritten ≤ f.startPos + f.size
  bytes : s.filled (s.lzWritten - s.lzSize) s.windowPos

/-- A match of length `len` at distance `dist` passes the checks of R238, and the window has the bytes it reads and the room it
writes (R75, R80). -/
structure State.matchReady (s : State) (dist len : Nat) : Prop where
  positive : 1 ≤ dist
  inDictionary : dist ≤ s.dictSizeForCheck
  dictionary : s.dictSizeForCheck ≤ s.windowSize
  afterStart : s.lzSize = 0 → dist ≤ s.windowPos
  source : s.windowFilled
  room : s.windowPos + len ≤ s.windowSize + Config.maxMatchLen

/-! What an operation has done. -/

/-- From `s` to `t` the window holds the result of the copy of R237, byte by byte in stream order, and nothing else of it has
changed. A byte whose distance reaches back no further than its own index comes from the window as the copy has left it
below that index, any other from the previous lap, which the copy has not yet reached. -/
structure copied (dist len : Nat) (s t : State) : Prop where
  frame : ∀ a, a < s.windowPos ∨ s.windowPos + len ≤ a → t.window.read a = s.window.read a
  bytes : ∀ p, s.windowPos ≤ p → p < s.windowPos + len →
    t.window.read p = if dist ≤ p then t.window.read (p - dist) else s.window.read (p + s.windowSize - dist)

/-- From `s` to `t` only what a flush may write has changed (R302). -/
abbrev onlyFlushed (s t : State) : Prop :=
  t = { s with
    lzWritten := t.lzWritten
    snk := t.snk
    writtenFileSize := t.writtenFileSize
    queue := t.queue
    fb := t.fb
    isUnsupportedFilter := t.isUnsupportedFilter }

/-- `u` is what one flush makes of `s`, whether or not the sink stopped it (R340, R341). -/
abbrev flushedTo (s u : State) : Prop := flush s = .ok u ∨ ∃ k, flush s = .raised k u

/-- `t` is what taking an error of kind `k` in `s` leaves (R340, R344). -/
abbrev failedWith (k : ErrorKind) (s t : State) : Prop :=
  ∃ u, flushedTo s u ∧ onlyFlushed s u ∧
    t = { u with status := s.status ++ [.error k], chainValid := false, phase := .idle }

/-! The pseudocode of 44_filters.md as it stands, to compare the transforms with. -/

/-- The four bytes of `v` written from index `i` on. -/
def writeWordAt (data : List Byte) (i v : Nat) : List Byte :=
  (((data.set i (BitVec.ofNat 8 v)).set (i + 1) (BitVec.ofNat 8 (v / 2 ^ 8))).set (i + 2) (BitVec.ofNat 8 (v / 2 ^ 16))).set
    (i + 3) (BitVec.ofNat 8 (v / 2 ^ 24))

/-- The word read from index `i` on. -/
def readWordAt (data : List Byte) (i : Nat) : Nat :=
  (data.getD i 0).toNat + 2 ^ 8 * (data.getD (i + 1) 0).toNat + 2 ^ 16 * (data.getD (i + 2) 0).toNat +
    2 ^ 24 * (data.getD (i + 3) 0).toNat

/-- The `while` loop of R272 and R273, in place on the region's bytes from index `i` on. `fuel` bounds the turns. -/
def e8Loop (e9 : Bool) (fileOffset : Nat) : Nat → Nat → List Byte → List Byte
  | 0, _, data => data
  | fuel + 1, i, data =>
    if i + 4 < data.length then
      if data.getD i 0 = 0xE8 ∨ (e9 = true ∧ data.getD i 0 = 0xE9) then
        let off := (i + 1 + fileOffset) % 2 ^ 24
        let addr := readWordAt data (i + 1)
        let data :=
          if addr < 2 ^ 24 then writeWordAt data (i + 1) ((addr + (2 ^ 32 - off)) % 2 ^ 32)
          else if addr ≥ 2 ^ 32 - off then writeWordAt data (i + 1) ((addr + 2 ^ 24) % 2 ^ 32)
          else data
        e8Loop e9 fileOffset fuel (i + 5) data
      else e8Loop e9 fileOffset fuel (i + 1) data
    else data

/-- The `for` loop of R274, in place on the region's bytes from index `i` on. `fuel` bounds the turns. -/
def armLoop (fileOffset : Nat) : Nat → Nat → List Byte → List Byte
  | 0, _, data => data
  | fuel + 1, i, data =>
    if i + 4 ≤ data.length then
      let instr := readWordAt data i
      let off := (fileOffset + i) / 4
      let data :=
        if data.getD (i + 3) 0 = 0xEB then
          writeWordAt data i (instr / 2 ^ 24 * 2 ^ 24 + (instr + (2 ^ 24 - off % 2 ^ 24)) % 2 ^ 24)
        else data
      armLoop fileOffset fuel (i + 4) data
    else data

/-- Where channel `c` of DELTA begins in the source (R271): after the bytes of the channels before it, of which channel `k` has
one for every index of the region that is `k` modulo `channels`. -/
def deltaStart (channels size c : Nat) : Nat := ((List.range c).map fun k => (size - k + channels - 1) / channels).sum

/-! Invariants. -/

/-- The window is in its canonical form. -/
abbrev memoryOk (s : State) : Prop := s.window.wf = true

/-- The pending-filter queue and what has been collected for its head (R47, R265, R267, R302). -/
structure queueOk (s : State) : Prop where
  bound : s.queue.length ≤ Config.filterQueueMax
  roomInside : s.phase = .vuDelta ∨ s.phase = .vuSize ∨ s.phase = .filterType → s.queue.length < Config.filterQueueMax
  ordered : s.queue.Pairwise fun f g => f.startPos + f.size ≤ g.startPos
  entries : ∀ f ∈ s.queue, 1 ≤ f.size ∧ f.size ≤ Config.filterSizeMax ∧ f.channels ≤ Config.filterChannelsMax ∧ f.startPos + f.size ≤ s.filterEnd
  collecting : match s.queue with
    | [] => s.fb = []
    | f :: _ => s.fb.length = s.lzWritten - f.startPos ∧ s.fb.length < f.size
  written : s.lzWritten ≤ s.total

/-- The cursor, the counters and the registers (R21 to R26, R59, R75, R80, R232), on a machine with parameters it can have. -/
structure cursorOk (s : State) : Prop where
  params : s.params.wf = true
  source : s.windowFilled
  lap : s.lzSize ≤ s.lzWritten
  dictionary : s.running → s.dictSizeForCheck = s.windowSize ∧ Config.windowMin ≤ s.windowSize ∧ s.limit ≤ s.windowSize
  betweenElements : s.phase = .symbols → s.windowPos < s.windowSize + Config.maxMatchLen
  insideElement : s.running → s.phase ≠ .symbols → s.windowPos < s.windowSize
  chain : s.phase = .idle → s.chainValid = true → s.windowPos < s.windowSize ∧ Config.windowMin ≤ s.windowSize
  lastLength : s.lastLength ≤ Config.maxMatchLen
  pending : s.phase = .distSlot → s.pendLen ≤ 4097
  distances : s.repDist.r0 ≠ 0 ∧ s.repDist.r1 ≠ 0 ∧ s.repDist.r2 ≠ 0 ∧ s.repDist.r3 ≠ 0

/-- The decoders in use, and the lengths read so far (R45, R170, R171, R201, R203), on a machine with parameters it can have. -/
structure decodersOk (s : State) : Prop where
  params : s.params.wf = true
  tables : s.running ∨ s.chainValid = true →
    s.huff.main.builtFor s.params.mainSize ∧ s.huff.dist.builtFor Config.distSizeV7 ∧
    s.huff.align.builtFor Config.alignSize ∧ s.huff.len.builtFor Config.lenSize
  level : s.phase = .levelSym → s.level.builtFor Config.levelSize ∧ s.tbl.length ≤ s.tableTotal
  nibbles : s.phase = .levelNib ∨ s.phase = .levelNib2 → s.lv.length ≤ Config.levelSize

/-- What the sink has taken (R301): never more than the declared size and, while a file is being decoded, never more than what has
been handed to it, unless the sink has stopped. -/
structure sinkOk (s : State) : Prop where
  declared : s.sizeDefined = true → s.snk.bytes.length ≤ s.unpackedSize.toNat
  counted : s.running → s.sizeDefined = true →
    s.snk.bytes.length ≤ s.writtenFileSize ∨ s.snk.ioAt = some s.snk.bytes.length

end Sys2Proof.Machine
end

