-- ==== Sys2Proof/Certificates/Slice0/Obligations.lean ====
section
/-! DEFINITION. The statements for the provers. Each docstring names the rules of spec/ it formalises. -/

open Sys2Proof Sys2Proof.Machine

/-! Reset, calls and steps. -/

/-- R370, R371, R26: the state at power-on has every value that the rules state for it. -/
def Obligations.PowerOnStateIsFullReset : Prop :=
  let s := State.reset
  s.repDist = ⟨0xFFFFFFFF, 0xFFFFFFFF, 0xFFFFFFFF, 0xFFFFFFFF⟩ ∧ s.lastLength = 0 ∧
  s.windowPos = 0 ∧ s.lzSize = 0 ∧ s.lzEnd = 0 ∧ s.lzWritten = 0 ∧ s.lzFileStart = 0 ∧
  (s.huff.main.empty ∧ s.huff.dist.empty ∧ s.huff.len.empty ∧ s.huff.align.empty) ∧
  s.tablesFilled = false ∧ s.useAlignBits = false ∧ s.queue = [] ∧ s.filterEnd = 0 ∧ s.fbFill = 0 ∧
  s.pc = 0 ∧ s.blockEnd = 0 ∧ s.blockEndBits7 = 0 ∧ s.isLastBlock = false ∧ s.minorError = false ∧
  s.isUnsupportedFilter = false ∧ s.wasFinished = false ∧ s.writtenFileSize = 0 ∧
  s.chainValid = false ∧ s.windowSize = 0 ∧ s.dictSizeForCheck = 0 ∧ s.window = []

/-- R371, R372, R58: the `reset` call makes a full reset, clears `chainValid` and leaves no window; everything else stays. That the two
window sizes become 0 and the window goes, as in R58's table and beside the words of R371, is the model's choice (log 29). -/
def Obligations.ResetCallMakesFullReset : Prop :=
  ∀ (s : State) (rest : List Command), s.phase = .idle → s.ctrl = .reset :: rest →
    ∃ H : HuffSet, (H.main.empty ∧ H.dist.empty ∧ H.len.empty ∧ H.align.empty) ∧
      step s = .next { s with
        ctrl := rest
        repDist := ⟨0xFFFFFFFF, 0xFFFFFFFF, 0xFFFFFFFF, 0xFFFFFFFF⟩
        lastLength := 0, windowPos := 0, lzSize := 0, lzEnd := 0, lzWritten := 0, lzFileStart := 0
        huff := H, tablesFilled := false, useAlignBits := false
        queue := [], filterEnd := 0, fb := []
        pc := 0, blockEnd := 0, blockEndBits7 := 0, isLastBlock := false
        minorError := false, isUnsupportedFilter := false, wasFinished := false, writtenFileSize := 0
        chainValid := false, windowSize := 0, dictSizeForCheck := 0, window := [] }

/-- R363: between transactions the instance keeps all of its state. That it takes steps while it waits is the model's choice (log 24). -/
def Obligations.IdleKeepsState : Prop :=
  ∀ s : State, s.phase = .idle → s.ctrl = [] → step s = .next s

/-- R85, R31: where the machine is ready for the fetch and its bits decode to an instruction, the step moves `pc` past those bits
(the property bytes of a call are no input) and runs that instruction. R125: what the bits are decoded as, phase by phase, the main
symbol apart, which `SymbolLoopRunsMainSymbol` gives: the property bytes of a call (R290); a length slot in the len code (R240) and a
distance slot in the dist code (R244), the low four bits in the align code exactly where `useAlignBits` is set (R234); the
descriptor's integers and type (R261, R263); a header at the next byte boundary (R191); the level nibbles (R201); and a level symbol
in the level code, past the over-read test (R203, R207). A raw field is the same in every code `H`. That `prepare` stands before the
last five kinds and records the source's end within 16 bytes of it is the model's choice (log 4, log 27), and so is the list of
calls (log 1). -/
def Obligations.StepRunsDecodedInstruction : Prop :=
  (∀ (s s' : State) (i : Instr) (n : Nat), before s = .go s' → fetch s' = .ok i n →
    step s = exec i (if s'.phase = .idle then s' else { s' with pc := s'.pc + n })) ∧
  ∀ s s1 : State,
    s1 = { s with wasFinished := s.wasFinished || (s.src.ioAt.isNone && decide (s.src.bytes.length < s.pc / 8 + 16)) } →
    let runs (f : Format) (H : Huff) (t : State) : Prop := ∀ i n,
      decode { fmt := f, sym := H, align := if s.useAlignBits then some s.huff.align else none, params := s.params }
        ((List.range 64).map fun j => t.bitAt (t.pc + j)) = .ok i n → step s = exec i { t with pc := t.pc + n }
    (∀ c args rest i n, c.fmt = .props → s.phase = .idle → s.ctrl = .decode args :: rest →
      decode c (toBits 16 args.props.toNat) = .ok i n → step s = exec i { s with ctrl := rest, port := args }) ∧
    (s.phase = .lenSlot → runs .lenSlot s.huff.len s) ∧
    (s.phase = .distSlot → runs .distSlot s.huff.dist s) ∧
    (∀ H, s.phase = .vuSize → runs .vuSel H s) ∧
    (∀ H, s.phase = .filterType → runs .filterType H s) ∧
    (s.sourceFails = false →
      (∀ H, s.phase = .vuDelta → runs .vuSel H s1) ∧
      (∀ H, s.phase = .header → runs .blockFlags H (alignToByte s1)) ∧
      (∀ H, s.phase = .levelNib → s.lv.length < 20 → runs .levelNib H s1) ∧
      (∀ H, s.phase = .levelNib2 → runs .levelNib2 H s1) ∧
      (s.phase = .levelSym → s.tbl.length < s.params.mainSize + (if s.props.getLsbD 1 then 140 else 124) →
        ¬(8 * s.blockEnd + s.blockEndBits7 < s.pc ∨ (s1.wasFinished = true ∧ 8 * s.src.bytes.length < s.pc)) →
        runs .levelSym s.level s1))

/-- R222, test 5, R142: where none of the four tests fires, the step decodes a main symbol with its fields at `pc` and runs it.
`wasFinished` is what `prepare` records when the source ends within the look-ahead (log 4). A source that fails there is a case of
`TakingAnErrorFlushesAndReports`. -/
def Obligations.SymbolLoopRunsMainSymbol : Prop :=
  ∀ (s s1 : State) (i : Instr) (n : Nat), s.phase = .symbols →
    ¬(s.sizeDefined = true ∧ s.lzEnd ≤ s.lzSize + s.windowPos) → s.windowPos < s.limit → s.sourceFails = false →
    s1 = { s with wasFinished := s.wasFinished || (s.src.ioAt.isNone && decide (s.src.bytes.length < s.pc / 8 + 16)) } →
    ¬(s1.wasFinished = true ∧ 8 * s.src.bytes.length < s.pc) → s.pc < 8 * s.blockEnd + s.blockEndBits7 →
    decode { fmt := .mainSym, sym := s.huff.main, align := if s.useAlignBits then some s.huff.align else none,
             params := s.params }
      ((List.range 64).map fun j => s.bitAt (s.pc + j)) = .ok i n →
    step s = exec i { s1 with pc := s.pc + n }

/-- R222, tests 1 and 2, R300, R304: at the declared size or at the limit of the write step the output is flushed and the window
wrapped; then the file is finished, or a new write step begins. That `queue` and `fb` of a finished file stay as the flush left them is
the model's choice (log 28), and so is that no `prepare`, and hence no failing source, comes before these two tests (log 27). A sink
that stops the flush is a case of `TakingAnErrorFlushesAndReports`. -/
def Obligations.WriteStepEndsWithFlushAndWrap : Prop :=
  ∀ s u v : State, s.phase = .symbols →
    (s.sizeDefined = true ∧ s.lzEnd ≤ s.lzSize + s.windowPos) ∨ s.limit ≤ s.windowPos →
    flush s = .ok u → wrap u = .ok v →
    step s = .next
      (if v.sizeDefined = true ∧ (v.unpackedSize.toNat ≤ v.writtenFileSize ∨ v.lzEnd ≤ v.lzSize + v.windowPos) then
        let r := v.fileResult v.params false
        { v with status := v.status ++ [r], chainValid := decide (r = .ok) && v.sizeDefined, phase := .idle }
      else { v with limit := min v.windowSize (v.windowPos + 2 ^ 18), phase := .symbols })

/-- R222, tests 3 and 4, in their order: the end of the input ends the file, a block that was over-read is corrupt, the end of the
last block ends the file, and the end of another is followed by a header on the next byte boundary. When `prepare` learns of the
source's end is the model's choice (log 4), where it stands among the tests is too (log 27), and so is that `queue` and `fb` of a
finished file stay as the flush left them (log 28). A source that fails and a sink that stops the flush are cases of
`TakingAnErrorFlushesAndReports`. -/
def Obligations.InputEndAndBlockEndTests : Prop :=
  ∀ s s1 : State, s.phase = .symbols →
    ¬(s.sizeDefined = true ∧ s.lzEnd ≤ s.lzSize + s.windowPos) → s.windowPos < s.limit → s.sourceFails = false →
    s1 = { s with wasFinished := s.wasFinished || (s.src.ioAt.isNone && decide (s.src.bytes.length < s.pc / 8 + 16)) } →
    let eof := s1.wasFinished = true ∧ 8 * s.src.bytes.length < s.pc
    let ends := 8 * s.blockEnd + s.blockEndBits7
    (eof → ∀ u v, flush s1 = .ok u → wrap u = .ok v →
      step s = .next { v with
        status := v.status ++ [v.fileResult v.params true]
        chainValid := decide (v.fileResult v.params true = .ok) && v.sizeDefined
        phase := .idle }) ∧
    (¬eof → ends < s.pc → s.flushable → ∃ t, step s = .next t ∧ failedWith .corruptedData s1 t) ∧
    (¬eof → s.pc = ends → s.isLastBlock = true → ∀ u v, flush (alignToByte s1) = .ok u → wrap u = .ok v →
      step s = .next { v with
        status := v.status ++ [v.fileResult v.params false]
        chainValid := decide (v.fileResult v.params false = .ok) && v.sizeDefined
        phase := .idle }) ∧
    (¬eof → s.pc = ends → s.isLastBlock = false → step s = .next { alignToByte s1 with phase := .header })

/-! Decoding and encoding. -/

/-- R101 to R105, R115, R116, R178: a few words written out from the spec's encodings decode to the instructions they stand for. -/
def Obligations.SpecWordsDecode : Prop :=
  let c (f : Format) : DecodeCtx := { fmt := f, sym := Huff.ofLens 0 [2, 1, 3, 3], align := none }
  decode (c .props) (toBits 16 0x0682) = .ok (.props 0 6 16 false true false) 16 ∧
  decode (c .blockFlags) (toBits 24 0xC69408) = .ok (.blkhdr0 6 false true true 0x94 0x08) 24 ∧
  decode (c .levelNib) [true, true, true, true] = .ok .lvlEsc 4 ∧
  decode (c .levelNib2) [false, false, false, false] = .ok .lvlNib15 4 ∧
  decode (c .levelSym) [true, true, false, true] = .ok .lvLen2 3 ∧
  decode (c .mainSym) [true, true, false, true] = .ok (.lit 2) 3 ∧
  decode (c .vuSel) (toBits 18 0b010001000000000000) = .ok (.vu32Sel1 0x10 0x00) 18 ∧
  decode (c .filterType) (toBits 8 0b00000011) = .ok (.typeDelta 3) 8

/-- R132, R174, R178: what the encoder writes, the decoder reads back, with every operand at every value the encoding admits and
whatever follows in the stream, on every machine whose parameters `Config.Params.wf` admits (log 14). -/
def Obligations.DecodeOfEncodeIsIdentity : Prop :=
  ∀ (c : DecodeCtx) (i : Instr) (rest : List Bool), Writable c i → i.wellFormed c.params = true →
    decode c (encode c i ++ rest) = .ok i (encode c i).length

/-- R132: what the decoder reads is a well-formed instruction of the context's format, and the bits it took are its encoding, on every
machine whose parameters `Config.Params.wf` admits (log 14). -/
def Obligations.EncodeOfDecodeIsPrefix : Prop :=
  ∀ (c : DecodeCtx) (bits : List Bool) (i : Instr) (n : Nat), Readable c → decode c bits = .ok i n → n ≤ bits.length →
    i.format = c.fmt ∧ i.wellFormed c.params = true ∧ encode c i = bits.take n

/-! The Huffman unit. -/

/-- R172, R173: what `build` accepts in each mode, by the Kraft sum over the symbols with a length. -/
def Obligations.BuildAcceptsByKraftSum : Prop :=
  ∀ (F : Nat) (mode : BuildMode) (lens : List Nat),
    let K := ((List.range lens.length).map fun s => if lens.getD s 0 = 0 then 0 else 2 ^ (15 - lens.getD s 0)).sum
    (Huff.build F mode lens).isSome = true ↔
      (∀ l ∈ lens, l ≤ 15) ∧
        match mode with
        | .full => K = 2 ^ 15
        | .fullOrEmpty => K = 2 ^ 15 ∨ ∀ l ∈ lens, l = 0
        | .partialCode => K ≤ 2 ^ 15

/-- R174: a symbol's code word has the symbol's length, and its left-aligned value is the sum of the shares of all symbols that come
before it in the order of length and then symbol index. -/
def Obligations.CanonicalCodeOrder : Prop :=
  ∀ (F : Nat) (lens : List Nat) (s k : Nat), buildAccepts .partialCode lens = true → lens[s]? = some k → k ≠ 0 →
    ∃ c, (Huff.ofLens F lens).codeOf s = some (c, k) ∧ c < 2 ^ k ∧
      c * 2 ^ (15 - k) = ((List.range lens.length).map fun r =>
        if lens.getD r 0 ≠ 0 ∧ (lens.getD r 0 < k ∨ (lens.getD r 0 = k ∧ r < s)) then 2 ^ (15 - lens.getD r 0) else 0).sum

/-- R174, R178: `decode` on a symbol's code word, whatever follows it, gives that symbol and moves by its length. -/
def Obligations.HuffmanDecodeInvertsCode : Prop :=
  ∀ (F : Nat) (lens : List Nat) (s k : Nat) (rest : List Bool), buildAccepts .partialCode lens = true →
    lens[s]? = some k → k ≠ 0 →
    ((Huff.ofLens F lens).codeBits s).length = k ∧
      (Huff.ofLens F lens).decodeBits ((Huff.ofLens F lens).codeBits s ++ rest) = .ok (s, k)

/-- R179: the two-level lookup answers as the definition without the fast table does, for every 15-bit value. -/
def Obligations.FastTableEquivalence : Prop :=
  ∀ (F : Nat) (lens : List Nat) (v : Nat), F ≤ 15 → buildAccepts .partialCode lens = true → v < 2 ^ 15 →
    (Huff.ofLens F lens).decodeTwoLevel F v = (Huff.ofLens F lens).decodeValue v

/-! The bit reader. -/

/-- R146, R147: the read from the snapshot returns what reading bit by bit returns, and moves alike. -/
def Obligations.ReadBitsBigIsReadBits : Prop :=
  ∀ (s : State) (n : Nat), n ≤ 25 → readBitsBig s n = readBits s n

/-- R150: aligning discards the rest of a byte that has been begun, records a discarded 1, and does nothing on a boundary. -/
def Obligations.AlignToByteDiscardsAndRecords : Prop :=
  ∀ s : State, (s.pc % 8 = 0 → alignToByte s = s) ∧
    (s.pc % 8 ≠ 0 → alignToByte s = { s with
      pc := 8 * (s.pc / 8 + 1)
      minorError := s.minorError || decide (∃ j, j < 8 - s.pc % 8 ∧ s.bitAt (s.pc + j) = true) })

/-! PROPS and per-file setup. -/

/-- R290, R332, R40, R42: rejected properties end the `decode` at once with `CorruptedData`, `pc` being 0; the call's arguments have been
latched, the sink has taken nothing, and nothing else changes. That the latched arguments and `pc` are no part of the "no other
state" of R290, so that the property register and `pc` do not keep what they held, is the model's reading (log 15). How an undefined
size is latched is its choice (log 13). -/
def Obligations.PropsRejectedEndsDecode : Prop :=
  ∀ (r0 : BitVec 3) (pow frac : BitVec 5) (r1 v7 solid : Bool) (s : State), 14 < pow.toNat + (frac.toNat + 31) / 32 →
    exec (.props r0 pow frac r1 v7 solid) s = .next { s with
      props := r0 ++ pow ++ frac ++ BitVec.ofBool r1 ++ BitVec.ofBool v7 ++ BitVec.ofBool solid
      unpackedSize := s.port.unpackedSize.getD 0, sizeDefined := s.port.unpackedSize.isSome
      src := s.port.src, snk := { bytes := [], ioAt := s.port.snkIoAt }
      pc := 0
      status := s.status ++ [.error .corruptedData]
      chainValid := false
      phase := .idle }

/-- R290, R26: a window size that is not rejected is the formula's, clamped from below, and lies between 2^18 and 2^31. -/
def Obligations.WindowSizeFormulaAndRange : Prop :=
  ∀ pow frac : BitVec 5, ¬ 14 < pow.toNat + (frac.toNat + 31) / 32 →
    Operands.propsRejected pow.toNat frac.toNat = false ∧
    Operands.windowSizeOf pow.toNat frac.toNat = max ((frac.toNat + 32) * 2 ^ (pow.toNat + 12)) (2 ^ 18) ∧
    2 ^ 18 ≤ Operands.windowSizeOf pow.toNat frac.toNat ∧ Operands.windowSizeOf pow.toNat frac.toNat ≤ 2 ^ 31

/-- R291, R292, R371, R40, R42: a file that does not continue a chain starts from a full reset with a window of its own. An undefined
declared size counts as 0 in `lzEnd`, which is then the file's start; that `unpackedSize` then holds 0 is the model's choice (log 13),
and so is that the window's list is empty, the spec giving its bytes any value (log 8). -/
def Obligations.PropsStartsFreshFile : Prop :=
  ∀ (r0 : BitVec 3) (pow frac : BitVec 5) (r1 v7 solid : Bool) (s : State), ¬ 14 < pow.toNat + (frac.toNat + 31) / 32 →
    ¬(solid = true ∧ s.chainValid = true ∧ ((s.lzSize + s.windowPos : Nat) - s.lzEnd : Int).natAbs ≤ 2 ^ 20) →
    s.port.windowAvail = true → s.port.filterAvail = true →
    ∃ H : HuffSet, (H.main.empty ∧ H.dist.empty ∧ H.len.empty ∧ H.align.empty) ∧
      let ws := max ((frac.toNat + 32) * 2 ^ (pow.toNat + 12)) (2 ^ 18)
      exec (.props r0 pow frac r1 v7 solid) s = .next { s with
        props := r0 ++ pow ++ frac ++ BitVec.ofBool r1 ++ BitVec.ofBool v7 ++ BitVec.ofBool solid
        unpackedSize := s.port.unpackedSize.getD 0, sizeDefined := s.port.unpackedSize.isSome
        src := s.port.src, snk := { bytes := [], ioAt := s.port.snkIoAt }
        repDist := ⟨0xFFFFFFFF, 0xFFFFFFFF, 0xFFFFFFFF, 0xFFFFFFFF⟩, lastLength := 0
        windowPos := 0, lzSize := 0, lzWritten := 0, lzFileStart := 0
        lzEnd := (s.port.unpackedSize.getD 0).toNat
        huff := H, tablesFilled := false, useAlignBits := false
        queue := [], filterEnd := 0, fb := []
        pc := 0, blockEnd := 0, blockEndBits7 := 0, isLastBlock := false
        minorError := false, isUnsupportedFilter := false, wasFinished := false, writtenFileSize := 0
        windowSize := ws, dictSizeForCheck := ws, window := []
        limit := min ws (2 ^ 18), phase := .symbols }

/-- R291, R292, R293, R374: a file that continues a chain keeps the dictionary and clears what is per file; with another window
size the situation has no meaning (R293), and that PROPS then refuses it by name is the model's reading (log 11). That an undefined
declared size leaves 0 in `unpackedSize` is the model's choice (log 13). -/
def Obligations.PropsContinuesSolidChain : Prop :=
  ∀ (r0 : BitVec 3) (pow frac : BitVec 5) (r1 v7 : Bool) (s : State), ¬ 14 < pow.toNat + (frac.toNat + 31) / 32 →
    s.chainValid = true → ((s.lzSize + s.windowPos : Nat) - s.lzEnd : Int).natAbs ≤ 2 ^ 20 →
    (s.windowSize ≠ max ((frac.toNat + 32) * 2 ^ (pow.toNat + 12)) (2 ^ 18) →
      exec (.props r0 pow frac r1 v7 true) s = .refused .windowSizeChange) ∧
    (s.windowSize = max ((frac.toNat + 32) * 2 ^ (pow.toNat + 12)) (2 ^ 18) → s.port.filterAvail = true →
      exec (.props r0 pow frac r1 v7 true) s = .next { s with
        props := r0 ++ pow ++ frac ++ BitVec.ofBool r1 ++ BitVec.ofBool v7 ++ BitVec.ofBool true
        unpackedSize := s.port.unpackedSize.getD 0, sizeDefined := s.port.unpackedSize.isSome
        src := s.port.src, snk := { bytes := [], ioAt := s.port.snkIoAt }
        lzWritten := s.lzSize + s.windowPos, lzFileStart := s.lzSize + s.windowPos
        lzEnd := s.lzSize + s.windowPos + (s.port.unpackedSize.getD 0).toNat
        queue := [], filterEnd := 0, fb := []
        pc := 0, blockEnd := 0, blockEndBits7 := 0, isLastBlock := false
        minorError := false, isUnsupportedFilter := false, wasFinished := false, writtenFileSize := 0
        dictSizeForCheck := s.windowSize
        limit := min s.windowSize (s.windowPos + 2 ^ 18), phase := .symbols })

/-- R334, R344: an allocation that per-file setup is refused ends the `decode` with `OutOfMemory`, and the chain is poisoned. How the
environment's answers come with the call is the model's choice (log 7). -/
def Obligations.RefusedAllocationIsOutOfMemory : Prop :=
  ∀ (r0 : BitVec 3) (pow frac : BitVec 5) (r1 v7 solid : Bool) (s : State), ¬ 14 < pow.toNat + (frac.toNat + 31) / 32 →
    let keep := solid = true ∧ s.chainValid = true ∧ ((s.lzSize + s.windowPos : Nat) - s.lzEnd : Int).natAbs ≤ 2 ^ 20
    (¬keep ∧ (s.port.windowAvail = false ∨ s.port.filterAvail = false)) ∨
      (keep ∧ s.windowSize = max ((frac.toNat + 32) * 2 ^ (pow.toNat + 12)) (2 ^ 18) ∧ s.port.filterAvail = false) →
    ∃ t, exec (.props r0 pow frac r1 v7 solid) s = .next t ∧ t.status = s.status ++ [.error .outOfMemory] ∧
      t.chainValid = false ∧ t.phase = .idle ∧ t.snk.bytes = []

/-! The block header. -/

/-- R191, R196, R199, R104: a header that announces tables commits the block's end and starts their transmission. That the latch
`hdrFlags` is written then is the model's choice (log 16). -/
def Obligations.HeaderWithTablesCommits : Prop :=
  ∀ (i : Instr) (num : Nat) (b7m1 : BitVec 3) (r5 last : Bool) (cx s0 s1 s2 : Byte) (S : Nat) (x : Byte) (s : State),
    (num = 0 ∧ i = .blkhdr0 b7m1 r5 last true cx s0 ∧ S = s0.toNat ∧ x = s0) ∨
    (num = 1 ∧ i = .blkhdr1 b7m1 r5 last true cx s0 s1 ∧ S = s0.toNat + 2 ^ 8 * s1.toNat ∧ x = s0 ^^^ s1) ∨
    (num = 2 ∧ i = .blkhdr2 b7m1 r5 last true cx s0 s1 s2 ∧ S = s0.toNat + 2 ^ 8 * s1.toNat + 2 ^ 16 * s2.toNat ∧ x = s0 ^^^ s1 ^^^ s2) →
    let flags := BitVec.ofNat 8 (128 + 64 * last.toNat + 32 * r5.toNat + 8 * num + b7m1.toNat)
    let b7 := b7m1.toNat + 1
    let bs := S + b7 / 8
    flags ^^^ cx ^^^ x = 0x5A →
    exec i s = .next { s with
      hdrFlags := flags
      minorError := s.minorError || decide (bs = 0)
      blockEnd := s.pc / 8 + (if bs = 0 then 1 else bs) - s.params.blockEndBias
      blockEndBits7 := b7 % 8
      isLastBlock := last
      tablesFilled := false, lv := [], phase := .levelNib }

/-- R191, R196, R198, R199: a header without tables commits the block's end and, where tables are filled, goes on with symbols;
where none are, it is corrupt, the block's end being committed before that is found. That the latch `hdrFlags` is written with the
block's end is the model's choice (log 16). -/
def Obligations.HeaderWithoutTables : Prop :=
  ∀ (i : Instr) (num : Nat) (b7m1 : BitVec 3) (r5 last : Bool) (cx s0 s1 s2 : Byte) (S : Nat) (x : Byte) (s : State),
    (num = 0 ∧ i = .blkhdr0 b7m1 r5 last false cx s0 ∧ S = s0.toNat ∧ x = s0) ∨
    (num = 1 ∧ i = .blkhdr1 b7m1 r5 last false cx s0 s1 ∧ S = s0.toNat + 2 ^ 8 * s1.toNat ∧ x = s0 ^^^ s1) ∨
    (num = 2 ∧ i = .blkhdr2 b7m1 r5 last false cx s0 s1 s2 ∧ S = s0.toNat + 2 ^ 8 * s1.toNat + 2 ^ 16 * s2.toNat ∧ x = s0 ^^^ s1 ^^^ s2) →
    let flags := BitVec.ofNat 8 (64 * last.toNat + 32 * r5.toNat + 8 * num + b7m1.toNat)
    let b7 := b7m1.toNat + 1
    let bs := S + b7 / 8
    let committed := { s with
      hdrFlags := flags
      minorError := s.minorError || decide (bs = 0)
      blockEnd := s.pc / 8 + (if bs = 0 then 1 else bs) - s.params.blockEndBias
      blockEndBits7 := b7 % 8
      isLastBlock := last }
    flags ^^^ cx ^^^ x = 0x5A →
    (s.tablesFilled = true → exec i s = .next { committed with phase := .symbols }) ∧
    (s.tablesFilled = false → s.flushable → ∃ t, exec i s = .next t ∧ failedWith .corruptedData committed t)

/-- R194, R195: three additional size bytes, or a wrong checksum, are corrupt, and nothing of the header is committed. That the latch
`hdrFlags` too keeps what it held is the model's choice (log 16). -/
def Obligations.BadHeaderCommitsNothing : Prop :=
  ∀ (b7m1 : BitVec 3) (r5 last tables : Bool) (cx s0 s1 s2 : Byte) (s : State), s.flushable →
    let flags (num : Nat) : Byte :=
      BitVec.ofNat 8 (128 * tables.toNat + 64 * last.toNat + 32 * r5.toNat + 8 * num + b7m1.toNat)
    (∃ t, exec (.blkhdrNum3 b7m1 r5 last tables cx) s = .next t ∧ failedWith .corruptedData s t) ∧
    (flags 0 ^^^ cx ^^^ s0 ≠ 0x5A →
      ∃ t, exec (.blkhdr0 b7m1 r5 last tables cx s0) s = .next t ∧ failedWith .corruptedData s t) ∧
    (flags 1 ^^^ cx ^^^ (s0 ^^^ s1) ≠ 0x5A →
      ∃ t, exec (.blkhdr1 b7m1 r5 last tables cx s0 s1) s = .next t ∧ failedWith .corruptedData s t) ∧
    (flags 2 ^^^ cx ^^^ (s0 ^^^ s1 ^^^ s2) ≠ 0x5A →
      ∃ t, exec (.blkhdr2 b7m1 r5 last tables cx s0 s1 s2) s = .next t ∧ failedWith .corruptedData s t)

/-! Table transmission. -/

/-- R215, R216, R217, R201: the level nibbles. `lvlNib0` to `lvlNib14` append their value, `lvlEsc` says that a second nibble
follows, `lvlNib15` appends 15, and `lvlZrun1` to `lvlZrun15` append a run of zeros that is cut at the twentieth length. -/
def Obligations.LevelNibblesAppend : Prop :=
  ∀ (i : Instr) (s : State), s.lv.length < 20 →
    (i.format = .levelNib → i.symbol < 15 → exec i s = .next { s with lv := s.lv ++ [i.symbol], phase := .levelNib }) ∧
    (exec .lvlEsc s = .next { s with phase := .levelNib2 }) ∧
    (exec .lvlNib15 s = .next { s with lv := s.lv ++ [15], phase := .levelNib }) ∧
    (i.format = .levelNib2 → i.symbol ≠ 0 →
      exec i s = .next { s with lv := s.lv ++ List.replicate (min (i.symbol + 2) (20 - s.lv.length)) 0, phase := .levelNib })

/-- R210, R213, R214, R203: the level symbols `lvLen0` to `lvLen15` append their value, `lvZeroS` and `lvZeroL` append a run of zeros
that is cut at the table's end, on a machine with R12's defaults (log 14). -/
def Obligations.LevelSymbolsAppend : Prop :=
  ∀ (i : Instr) (e : Nat) (s : State),
    let T := if s.props.getLsbD 1 then 452 else 436
    s.params = Config.params → s.tbl.length < T →
    (i.format = .levelSym → i.symbol < 16 → exec i s = .next { s with tbl := s.tbl ++ [i.symbol] }) ∧
    (e < 8 → exec (.lvZeroS e) s = .next { s with tbl := s.tbl ++ List.replicate (min (3 + e) (T - s.tbl.length)) 0 }) ∧
    (e < 128 → exec (.lvZeroL e) s = .next { s with tbl := s.tbl ++ List.replicate (min (7 + e) (T - s.tbl.length)) 0 })

/-- R211, R212, R204: `lvRepS` and `lvRepL` repeat the preceding entry, cut at the table's end; at the start of the table they are
corrupt. The numbers are those of R12's defaults (log 14). -/
def Obligations.LevelRepeatsPrecedingEntry : Prop :=
  ∀ (e v : Nat) (done : List Nat) (s : State),
    let T := if s.props.getLsbD 1 then 452 else 436
    s.params = Config.params →
    (s.tbl = done ++ [v] → s.tbl.length < T → e < 8 →
      exec (.lvRepS e) s = .next { s with tbl := s.tbl ++ List.replicate (min (3 + e) (T - s.tbl.length)) v }) ∧
    (s.tbl = done ++ [v] → s.tbl.length < T → e < 128 →
      exec (.lvRepL e) s = .next { s with tbl := s.tbl ++ List.replicate (min (7 + e) (T - s.tbl.length)) v }) ∧
    (s.tbl = [] → s.flushable → e < 8 → ∃ t, exec (.lvRepS e) s = .next t ∧ failedWith .corruptedData s t) ∧
    (s.tbl = [] → s.flushable → e < 128 → ∃ t, exec (.lvRepL e) s = .next t ∧ failedWith .corruptedData s t)

/-- R200, R202, R207: after the twentieth level length the over-read test comes first, then the level decoder is built. Its fast table
of width 0 is the model's reading, no rule giving a width (log 19); that no `prepare` stands before this test, so that a failing
source is not met here and `wasFinished` is as the last nibble left it, is its choice (log 27). -/
def Obligations.LevelDecoderIsBuilt : Prop :=
  ∀ s : State, s.phase = .levelNib → s.lv.length = 20 → s.flushable →
    let overRead := 8 * s.blockEnd + s.blockEndBits7 < s.pc ∨ (s.wasFinished = true ∧ 8 * s.src.bytes.length < s.pc)
    (overRead → ∃ t, step s = .next t ∧ failedWith .corruptedData s t) ∧
    (¬overRead → buildAccepts .fullOrEmpty s.lv = false → ∃ t, step s = .next t ∧ failedWith .corruptedData s t) ∧
    (¬overRead → buildAccepts .fullOrEmpty s.lv = true →
      step s = .next { s with level := Huff.ofLens 0 s.lv, tbl := [], phase := .levelSym })

/-- R205, R206, R208, R107: a table set that is complete and inside its block is split, its four decoders are built and take effect;
where one of them is not accepted, the file is corrupt, whatever the four decoders then hold (R385, log 12). `M` is MAIN_SIZE (R12). That
no `prepare` stands between the last length and the over-read test, so that a failing source is not met here, is the model's choice
(log 27). -/
def Obligations.TableSetTakesEffect : Prop :=
  ∀ s : State, s.phase = .levelSym →
    let M := s.params.mainSize
    let D := if s.props.getLsbD 1 then 80 else 64
    s.tbl.length = M + D + 16 + 44 →
    ¬(8 * s.blockEnd + s.blockEndBits7 < s.pc ∨ (s.wasFinished = true ∧ 8 * s.src.bytes.length < s.pc)) →
    let main := s.tbl.take M
    let dist := (s.tbl.drop M).take D ++ List.replicate (80 - D) 0
    let align := (s.tbl.drop (M + D)).take 16
    let len := s.tbl.drop (M + D + 16)
    (buildAccepts .fullOrEmpty main = true ∧ buildAccepts .fullOrEmpty dist = true ∧
        buildAccepts .fullOrEmpty align = true ∧ buildAccepts .fullOrEmpty len = true →
      step s = .next { s with
        huff := ⟨Huff.ofLens 10 main, Huff.ofLens 7 dist, Huff.ofLens 6 align, Huff.ofLens 7 len⟩
        useAlignBits := decide (∃ l ∈ align, l ≠ 4)
        tablesFilled := true
        phase := .symbols }) ∧
    (¬(buildAccepts .fullOrEmpty main = true ∧ buildAccepts .fullOrEmpty dist = true ∧
        buildAccepts .fullOrEmpty align = true ∧ buildAccepts .fullOrEmpty len = true) → s.flushable →
      ∃ (t : State) (H : HuffSet), step s = .next t ∧
        failedWith .corruptedData { s with huff := H, freeCount := s.freeCount + 1 } t)

/-- R207: a table set that passes the end of its block or of the input is corrupt: the test stands after the level nibbles, before every
level symbol, and after the last length. That `prepare` records the source's end in `wasFinished` within 16 bytes of it is the model's
choice (log 4), and so is that `prepare` stands before the test at a level symbol and not before the other two (log 27). A source that
fails is a case of `TakingAnErrorFlushesAndReports`. -/
def Obligations.TableOverReadIsCorrupt : Prop :=
  ∀ s s1 : State, s.flushable → s.sourceFails = false →
    s1 = { s with wasFinished := s.wasFinished || (s.src.ioAt.isNone && decide (s.src.bytes.length < s.pc / 8 + 16)) } →
    let overRead (u : State) := 8 * u.blockEnd + u.blockEndBits7 < u.pc ∨ (u.wasFinished = true ∧ 8 * u.src.bytes.length < u.pc)
    let T := s.params.mainSize + if s.props.getLsbD 1 then 140 else 124
    (s.phase = .levelNib → s.lv.length = 20 → overRead s → ∃ t, step s = .next t ∧ failedWith .corruptedData s t) ∧
    (s.phase = .levelSym → s.tbl.length < T → overRead s1 → ∃ t, step s = .next t ∧ failedWith .corruptedData s1 t) ∧
    (s.phase = .levelSym → s.tbl.length = T → overRead s → ∃ t, step s = .next t ∧ failedWith .corruptedData s t)

/-! The symbol loop's elements. -/

/-- R230: a literal stores its byte at the cursor and moves the cursor; no other byte and no other register changes. -/
def Obligations.LiteralStoresAtCursor : Prop :=
  ∀ (b : Byte) (s : State), s.windowPos < s.windowSize + 0x1004 →
    ∃ t, exec (.lit b) s = .next t ∧ t = { s with window := t.window, windowPos := s.windowPos + 1 } ∧
      t.window.read s.windowPos = some b ∧ ∀ a, a ≠ s.windowPos → t.window.read a = s.window.read a

/-- R239: `LASTLEN` does nothing where no match has set a length; else it copies the last length at the last distance and changes no
register but the cursor. -/
def Obligations.LastlenRepeatsMatch : Prop :=
  ∀ s : State, (s.lastLength = 0 → exec .lastlen s = .next s) ∧
    (s.lastLength ≠ 0 → s.matchReady s.repDist.r0.toNat s.lastLength →
      ∃ t, exec .lastlen s = .next t ∧ t = { s with window := t.window, windowPos := s.windowPos + s.lastLength } ∧
        copied s.repDist.r0.toNat s.lastLength s t)

/-- R225, R240 to R243: `REPk` moves `repDist[k]` to the front, and its length comes next. -/
def Obligations.RepSymbolsMoveToFront : Prop :=
  ∀ (r0 r1 r2 r3 : Word32) (s : State), s.repDist = ⟨r0, r1, r2, r3⟩ →
    exec .rep0 s = .next { s with repDist := ⟨r0, r1, r2, r3⟩, phase := .lenSlot } ∧
    exec .rep1 s = .next { s with repDist := ⟨r1, r0, r2, r3⟩, phase := .lenSlot } ∧
    exec .rep2 s = .next { s with repDist := ⟨r2, r0, r1, r3⟩, phase := .lenSlot } ∧
    exec .rep3 s = .next { s with repDist := ⟨r3, r0, r1, r2⟩, phase := .lenSlot }

/-- R229, R240, R245, R237: the length of a `REPk` (`lenSlot0` to `lenSlot43`), which is stored and copied at `repDist[0]`. -/
def Obligations.LengthSlotsCopyFromLastDistance : Prop :=
  ∀ (i : Instr) (len : Nat) (s : State), i.format = .lenSlot → i.wellFormed = true →
    len = (if i.symbol < 8 then i.symbol + 2
      else ((4 ||| (i.symbol &&& 3)) <<< ((i.symbol >>> 2) - 1)) + i.operands.headD 0 + 2) →
    s.matchReady s.repDist.r0.toNat len →
    ∃ t, exec i s = .next t ∧
      t = { s with window := t.window, windowPos := s.windowPos + len, lastLength := len, phase := .symbols } ∧
      copied s.repDist.r0.toNat len s t

/-- R229, R244: the length of a `MATCH` (`matchSlot0` to `matchSlot43`), whose distance comes next. -/
def Obligations.MatchSlotsSetLength : Prop :=
  ∀ (i : Instr) (s : State), i.format = .mainSym → 262 ≤ i.symbol → i.symbol < 306 → i.wellFormed = true →
    let slot := i.symbol - 262
    exec i s = .next { s with
      pendLen := if slot < 8 then slot + 2 else ((4 ||| (slot &&& 3)) <<< ((slot >>> 2) - 1)) + i.operands.headD 0 + 2
      phase := .distSlot }

/-- R112, R113, R226, R233, R234, R236, R237, R244, R245: the distance of a `MATCH` (`distSlot0` to `distSlot61`): it goes into the
registers, the length grows by the addend of its width, which has R12's default values (log 14), and the match is copied. -/
def Obligations.DistanceSlotsCopyMatch : Prop :=
  ∀ (i : Instr) (dist len : Nat) (s : State), i.format = .distSlot → i.symbol < 62 → i.wellFormed = true →
    let d := i.symbol
    let nb := (d - 2) / 2
    let low := match i.operands with
      | [low] => low
      | [high, lo4] => 16 * high + lo4
      | _ => 0
    dist = (if d < 4 then d + 1 else ((2 ||| (d &&& 1)) <<< nb) + low + 1) →
    s.params = Config.params →
    len = s.pendLen + ((if 7 ≤ nb then 1 else 0) + (if 12 ≤ nb then 1 else 0) + (if 17 ≤ nb then 1 else 0)) →
    s.matchReady dist len →
    ∃ t, exec i s = .next t ∧
      t = { s with
        window := t.window
        windowPos := s.windowPos + len
        repDist := ⟨BitVec.ofNat 32 dist, s.repDist.r0, s.repDist.r1, s.repDist.r2⟩
        lastLength := len
        phase := .symbols } ∧
      copied dist len s t ∧ (BitVec.ofNat 32 dist).toNat = dist

/-- R235: the distance slots 62 to 79 (`distSlot62` to `distSlot79`) force the distance 0xFFFFFFFE, which always ends the file as
corrupt; the registers are written before that, no length addend is used. -/
def Obligations.SentinelDistancesAreCorrupt : Prop :=
  ∀ (i : Instr) (s : State), i.format = .distSlot → 62 ≤ i.symbol → s.dictSizeForCheck ≤ 2 ^ 31 → s.flushable →
    ∃ t, exec i s = .next t ∧ failedWith .corruptedData
      { s with
        repDist := ⟨0xFFFFFFFE, s.repDist.r0, s.repDist.r1, s.repDist.r2⟩
        lastLength := s.pendLen
        phase := .symbols } t

/-- R238, R240, R244, R245, R226: every kind of match is rejected where its distance is beyond the dictionary or before the start: nothing
is copied. Before its check a length slot stores its length in `lastLength`, and a distance slot stores its distance in `repDist` and
the pending length with its addend of LEN_PLUS in `lastLength`. -/
def Obligations.InvalidDistancesAreCorrupt : Prop :=
  ∀ (i : Instr) (s : State), s.flushable →
    let bad (d : Nat) : Prop := s.dictSizeForCheck < d ∨ (s.lzSize = 0 ∧ s.windowPos < d)
    (s.lastLength ≠ 0 → bad s.repDist.r0.toNat → ∃ t, exec .lastlen s = .next t ∧ failedWith .corruptedData s t) ∧
    (i.format = .lenSlot → i.wellFormed = true → bad s.repDist.r0.toNat →
      ∃ t, exec i s = .next t ∧ failedWith .corruptedData
        { s with lastLength := Operands.slotToLen i.symbol (i.operands.headD 0), phase := .symbols } t) ∧
    (i.format = .distSlot → i.symbol < 62 → i.wellFormed = true →
      ∀ dist, dist = (if i.symbol < 4 then i.symbol + 1
          else ((2 ||| (i.symbol &&& 1)) <<< ((i.symbol - 2) / 2)) + (match i.operands with
            | [low] => low
            | [high, lo4] => 16 * high + lo4
            | _ => 0) + 1) →
        bad dist →
        ∃ t, exec i s = .next t ∧ failedWith .corruptedData
          { s with
            repDist := ⟨BitVec.ofNat 32 dist, s.repDist.r0, s.repDist.r1, s.repDist.r2⟩
            lastLength := s.pendLen + Operands.lenPlus s.params i.symbol
            phase := .symbols } t)

/-- R228: the reserved main symbols `reserved306` to `reserved311` are corrupt, and nothing else has changed. -/
def Obligations.ReservedSymbolsAreCorrupt : Prop :=
  ∀ (i : Instr) (s : State), i.format = .mainSym → 306 ≤ i.symbol → s.flushable →
    ∃ t, exec i s = .next t ∧ failedWith .corruptedData s t

/-! Filters. -/

/-- R231, R267: `FILTER` goes on with the descriptor. A saturated queue is drained first and, where that does not help, emptied with the
flag set. -/
def Obligations.FilterOpensDescriptor : Prop :=
  ∀ s : State,
    (s.queue.length < 8192 → exec .filter s = .next { s with phase := .vuDelta }) ∧
    (8192 ≤ s.queue.length → ∀ u, flush s = .ok u →
      (u.queue.length < 8192 → exec .filter s = .next { u with phase := .vuDelta }) ∧
      (8192 ≤ u.queue.length →
        exec .filter s = .next { u with isUnsupportedFilter := true, queue := [], fb := [], phase := .vuDelta }))

/-- R261, R116: a variable-width integer, least significant byte first, goes to the descriptor's `startPosDelta` and then to its
`size` (R263). -/
def Obligations.VariableWidthIntegers : Prop :=
  ∀ (i : Instr) (b0 b1 b2 b3 : Byte) (v : Nat) (s : State),
    (i = .vu32Sel0 b0 ∧ v = b0.toNat) ∨
    (i = .vu32Sel1 b0 b1 ∧ v = b0.toNat + 2 ^ 8 * b1.toNat) ∨
    (i = .vu32Sel2 b0 b1 b2 ∧ v = b0.toNat + 2 ^ 8 * b1.toNat + 2 ^ 16 * b2.toNat) ∨
    (i = .vu32Sel3 b0 b1 b2 b3 ∧ v = b0.toNat + 2 ^ 8 * b1.toNat + 2 ^ 16 * b2.toNat + 2 ^ 24 * b3.toNat) →
    (BitVec.ofNat 32 v).toNat = v ∧
    (s.phase = .vuDelta → exec i s = .next { s with fltDelta := BitVec.ofNat 32 v, phase := .vuSize }) ∧
    (s.phase = .vuSize → exec i s = .next { s with fltSize := BitVec.ofNat 32 v, phase := .filterType })

/-- R263 to R266, R268, R262: the fate of a descriptor by its size and place, for every type (`typeDelta` with its channels, `typeE8`,
`typeE8E9`, `typeArm`, `type4` to `type7`). A new write step begins with it (R300). The type codes are R12's defaults (log 14). -/
def Obligations.DescriptorFate : Prop :=
  ∀ (i : Instr) (type : BitVec 3) (channels : Nat) (chM1 : BitVec 5) (s : State), s.params = Config.params →
    (i = .typeDelta chM1 ∧ type = 0 ∧ channels = chM1.toNat + 1) ∨
    ((i, type) ∈ [(Instr.typeE8, 1), (.typeE8E9, 2), (.typeArm, 3), (.type4, 4), (.type5, 5), (.type6, 6), (.type7, 7)] ∧ channels = 0) →
    let size := s.fltSize.toNat
    let startPos := s.lzSize + s.windowPos + s.fltDelta.toNat
    exec i s = .next
      (if 2 ^ 22 < size ∨ startPos < s.filterEnd then
        { s with isUnsupportedFilter := true, limit := min s.windowSize (s.windowPos + 2 ^ 18), phase := .symbols }
      else if size = 0 then { s with limit := min s.windowSize (s.windowPos + 2 ^ 18), phase := .symbols }
      else { s with
        queue := s.queue ++ [{ startPos, size, type, channels }]
        filterEnd := startPos + size
        limit := min s.windowSize (s.windowPos + 2 ^ 18)
        phase := .symbols })

/-- R271: DELTA. Byte `j` of channel `c` is the negated sum of the channel's source bytes up to `j`; the channels' source bytes lie one
channel after another. -/
def Obligations.DeltaIsNegatedPrefixSum : Prop :=
  ∀ (channels : Nat) (data : List Byte), 1 ≤ channels → channels ≤ 32 →
    (deltaFilter channels data).length = data.length ∧
    ∀ c j, c < channels → c + j * channels < data.length →
      (deltaFilter channels data)[c + j * channels]? =
        some ((List.range (j + 1)).foldl (fun acc k => acc - data.getD (deltaStart channels data.length c + k) 0) 0)

/-- R272, R273: E8 and E8E9 are the loop of the rule, and keep the region's size. -/
def Obligations.E8TransformsAreTheirLoop : Prop :=
  ∀ (e9 : Bool) (fileOffset : Nat) (data : List Byte),
    (e8Filter e9 fileOffset [] 0 data).length = data.length ∧
    e8Filter e9 fileOffset [] 0 data = e8Loop e9 fileOffset data.length 0 data

/-- R262, R270, R274, R275: ARM is the loop of the rule; a type that names no filter zeroes the region; every type keeps the region's size
and is dispatched by its code, which has R12's default values (log 14). -/
def Obligations.FilterDispatchAndArm : Prop :=
  ∀ (f : FilterEntry) (fileOffset : Nat) (data : List Byte),
    (applyFilter Config.params f fileOffset data).length = data.length ∧
    (f.type = 0 → applyFilter Config.params f fileOffset data = deltaFilter f.channels data) ∧
    (f.type = 1 → applyFilter Config.params f fileOffset data = e8Filter false fileOffset [] 0 data) ∧
    (f.type = 2 → applyFilter Config.params f fileOffset data = e8Filter true fileOffset [] 0 data) ∧
    (f.type = 3 → applyFilter Config.params f fileOffset data = armLoop fileOffset data.length 0 data) ∧
    (4 ≤ f.type.toNat → applyFilter Config.params f fileOffset data = List.replicate data.length 0)

/-! Output. -/

/-- R301: the write clamp. The sink takes at most what is left of the declared size, the count takes everything. A sink that answers with
an error raises `Io` (R331, R334). That it does so where a push goes beyond its count, what it has then taken, and that the failing
write is not counted are the model's choices (log 6). -/
def Obligations.SinkWriteClamps : Prop :=
  ∀ (bs : List Byte) (s : State),
    let k := if s.sizeDefined = false then bs.length
      else if s.writtenFileSize < s.unpackedSize.toNat then min bs.length (s.unpackedSize.toNat - s.writtenFileSize)
      else 0
    (s.snk.ioAt = none →
      sinkWrite bs s = .ok { s with
        snk := { bytes := s.snk.bytes ++ bs.take k, ioAt := none }
        writtenFileSize := s.writtenFileSize + bs.length }) ∧
    ∀ n, s.snk.ioAt = some n →
      (k = 0 ∨ s.snk.bytes.length + k ≤ n →
        sinkWrite bs s = .ok { s with
          snk := { bytes := s.snk.bytes ++ bs.take k, ioAt := some n }
          writtenFileSize := s.writtenFileSize + bs.length }) ∧
      (0 < k → n < s.snk.bytes.length + k →
        sinkWrite bs s = .raised .io { s with
          snk := { bytes := s.snk.bytes ++ bs.take (n - s.snk.bytes.length), ioAt := some n } })

/-- R302: the flush is the loop of the rule, turn by turn: the rest of the bytes where no filter is pending, the plain bytes before a
filter, and inside its region the collection and, once complete, the transform. -/
def Obligations.FlushFollowsItsLoop : Prop :=
  ∀ s : State, queueOk s →
    (s.queue = [] → s.lzWritten < s.total →
      flush s = (winBytes s s.total).bind fun bs => (sinkWrite bs s).bind fun t => .ok { t with lzWritten := s.total }) ∧
    (s.lzWritten = s.total → flush s = .ok s) ∧
    ∀ f rest, s.queue = f :: rest → s.lzWritten < s.total →
      (s.lzWritten < f.startPos →
        let e := min s.total f.startPos
        flush s = (winBytes s e).bind fun bs => (sinkWrite bs s).bind fun t => flush { t with lzWritten := e }) ∧
      (f.startPos ≤ s.lzWritten →
        let e := min s.total (f.startPos + f.size)
        flush s = (winBytes s e).bind fun bs =>
          let t := { s with fb := s.fb ++ bs, lzWritten := e }
          if t.fb.length = f.size then
            (sinkWrite (applyFilter s.params f (f.startPos - s.lzFileStart) t.fb)
              { t with
                queue := rest, fb := []
                isUnsupportedFilter := s.isUnsupportedFilter || decide (f.type.toNat ≠ s.params.typeDelta ∧
                  f.type.toNat ≠ s.params.typeE8 ∧ f.type.toNat ≠ s.params.typeE8E9 ∧ f.type.toNat ≠ s.params.typeArm) }).bind flush
          else flush t)

/-- R302, R90: after a flush every produced byte has gone to the sink or into the filter buffer, and the window, the cursor and the
registers are as before. -/
def Obligations.FlushReachesCursor : Prop :=
  ∀ s : State, queueOk s → s.flushable → s.snk.ioAt = none →
    ∃ t, flush s = .ok t ∧ onlyFlushed s t ∧ t.lzWritten = s.lzSize + s.windowPos ∧
      t.writtenFileSize + t.fb.length = s.writtenFileSize + s.fb.length + (s.lzSize + s.windowPos - s.lzWritten)

/-- R303: the wrap moves the tail to the start of the window and leaves the next LZ coordinate as it is. -/
def Obligations.WrapMovesTail : Prop :=
  ∀ s : State,
    (s.windowPos < s.windowSize → wrap s = .ok s) ∧
    (s.windowSize ≤ s.windowPos → s.windowPos - s.windowSize ≤ s.windowSize → s.filled s.windowSize s.windowPos →
      ∃ t, wrap s = .ok t ∧
        t = { s with window := t.window, lzSize := s.lzSize + s.windowSize, windowPos := s.windowPos - s.windowSize } ∧
        (∀ a, a < s.windowPos - s.windowSize → t.window.read a = s.window.read (s.windowSize + a)) ∧
        (∀ a, s.windowPos - s.windowSize ≤ a → t.window.read a = s.window.read a))

/-- R340, R341, R344: taking an error makes one flush, whose own error replaces nothing, reports the kind, poisons the chain and leaves
the instance idle. R142, R334: a `prepare` whose source answers with an error is taken so, with the kind `Io`: in the symbol loop
past the tests of the declared size and the limit, before a block header, before a level nibble or a level symbol, and before a
filter descriptor. R301, R334: a flush of the main loop (R300) or of a saturated queue (R267) that the sink stops raises `Io`, and that is
taken so as well, in the state `u` in which the flush stopped: at the declared size or the limit, at the input's end, at the end of
the last block, and at `FILTER`. Where the source fails is data of the model (log 5), where `prepare` stands among the tests its
choice (log 27) and when it learns of the source's end too (log 4), and so is what a failing push leaves behind (log 6). -/
def Obligations.TakingAnErrorFlushesAndReports : Prop :=
  ∀ s : State, s.flushable →
    let s1 := { s with wasFinished := s.wasFinished || (s.src.ioAt.isNone && decide (s.src.bytes.length < s.pc / 8 + 16)) }
    let reached := (s.sizeDefined = true ∧ s.lzEnd ≤ s.lzSize + s.windowPos) ∨ s.limit ≤ s.windowPos
    let eof := s1.wasFinished = true ∧ 8 * s.src.bytes.length < s.pc
    (∀ k : ErrorKind, ∃ t, takeError k s = .next t ∧ failedWith k s t) ∧
    (∀ n, s.src.ioAt = some n → n ≤ s.pc / 8 ∨ s.src.bytes.length < s.pc / 8 + 16 →
      (s.phase = .symbols ∧ ¬reached) ∨
        s.phase = .header ∨ (s.phase = .levelNib ∧ s.lv.length < 20) ∨ s.phase = .levelNib2 ∨
        (s.phase = .levelSym ∧ s.tbl.length < s.params.mainSize + if s.props.getLsbD 1 then 140 else 124) ∨ s.phase = .vuDelta →
      ∃ t, step s = .next t ∧ failedWith .io s t) ∧
    (∀ k u, queueOk s → s.phase = .symbols →
      (reached ∧ flush s = .raised k u) ∨
        (¬reached ∧ s.sourceFails = false ∧ eof ∧ flush s1 = .raised k u) ∨
        (¬reached ∧ s.sourceFails = false ∧ ¬eof ∧ s.pc = 8 * s.blockEnd + s.blockEndBits7 ∧ s.isLastBlock = true ∧
          flush (alignToByte s1) = .raised k u) →
      k = .io ∧ ∃ t, step s = .next t ∧ failedWith .io u t) ∧
    (∀ k u, queueOk s → 8192 ≤ s.queue.length → flush s = .raised k u →
      k = .io ∧ ∃ t, exec .filter s = .next t ∧ failedWith .io u t)

/-- R305: the result of a file that ended without an error in its loop, in the order of the rule's lines. -/
def Obligations.FileResultOrder : Prop :=
  ∀ (P : Config.Params) (byEof : Bool) (s : State),
    (s.isUnsupportedFilter = true → s.fileResult P byEof = .error .unsupportedFilter) ∧
    (s.isUnsupportedFilter = false →
      (0 < s.fb.length ∨ (s.sizeDefined = true ∧ s.writtenFileSize < s.unpackedSize.toNat) ∨
          (byEof = true ∧ s.sizeDefined = false ∧ P.eofUndefinedOk = false) ∨ (s.minorError = true ∧ s.writtenFileSize = 0) →
        s.fileResult P byEof = .error .corruptedData) ∧
      (¬(0 < s.fb.length ∨ (s.sizeDefined = true ∧ s.writtenFileSize < s.unpackedSize.toNat) ∨
          (byEof = true ∧ s.sizeDefined = false ∧ P.eofUndefinedOk = false) ∨ (s.minorError = true ∧ s.writtenFileSize = 0)) →
        s.fileResult P byEof = .ok))

/-! Invariants. -/

/-- The five invariants hold at reset. -/
def Obligations.InvariantsHoldAtReset : Prop :=
  memoryOk State.reset ∧ queueOk State.reset ∧ cursorOk State.reset ∧ decodersOk State.reset ∧ sinkOk State.reset

/-- Every step keeps the memory's canonical form, which is the model's own. -/
def Obligations.StepKeepsMemoryCanonical : Prop :=
  ∀ s t : State, memoryOk s → step s = .next t → memoryOk t

/-- R47, R265, R302: every step keeps the pending-filter queue ordered and bounded, and the filter buffer in step with `lzWritten`. -/
def Obligations.StepKeepsQueueOk : Prop :=
  ∀ s t : State, queueOk s → step s = .next t → queueOk t

/-- R23, R24, R59, R75, R80, R232: every step keeps the cursor in its range, the bytes below it written, and the registers in theirs. -/
def Obligations.StepKeepsCursorOk : Prop :=
  ∀ s t : State, queueOk s → cursorOk s → decodersOk s → step s = .next t → cursorOk t

/-- R45, R171, R203: every step keeps the decoders in use built from accepted tables, and the tables being read within their sizes. -/
def Obligations.StepKeepsDecodersOk : Prop :=
  ∀ s t : State, decodersOk s → step s = .next t → decodersOk t

/-- R301: every step keeps the sink within the declared size. -/
def Obligations.StepKeepsSinkOk : Prop :=
  ∀ s t : State, sinkOk s → step s = .next t → sinkOk t

/-- R80, R73: under the invariants no step faults: no window byte is read before it has been written, and none is written beyond the
tail. -/
def Obligations.NoStepFaults : Prop :=
  ∀ (s : State) (r : Fault), queueOk s → cursorOk s → step s ≠ .fault r

/-- R178, R132, R293: under the invariants the one step without a meaning is a change of the window size inside a solid chain. That an
empty decoder is `CorruptedData` is the effect 93_implementation_defined.md allows, taken by the model (log 10). -/
def Obligations.OnlyWindowSizeChangeIsRefused : Prop :=
  ∀ (s : State) (r : Refusal), decodersOk s → step s = .refused r → r = .windowSizeChange

/-- R31: while a file is being decoded the input position never moves backward. -/
def Obligations.PcNeverMovesBackward : Prop :=
  ∀ s t : State, s.running → step s = .next t → s.pc ≤ t.pc
end

