-- ==== Sys2Proof/Laws/State.lean ====
section
/-! SUPPORT. One lemma per field for each named update of the state: what a projection of the updated state is. -/

namespace Sys2Proof.Machine

/-! `State.movePos`. -/

@[simp] theorem State.movePos_params (s : State) (n : Nat) : (s.movePos n).params = s.params := rfl
@[simp] theorem State.movePos_phase (s : State) (n : Nat) : (s.movePos n).phase = s.phase := rfl
@[simp] theorem State.movePos_ctrl (s : State) (n : Nat) : (s.movePos n).ctrl = s.ctrl := rfl
@[simp] theorem State.movePos_port (s : State) (n : Nat) : (s.movePos n).port = s.port := rfl
@[simp] theorem State.movePos_status (s : State) (n : Nat) : (s.movePos n).status = s.status := rfl
@[simp] theorem State.movePos_src (s : State) (n : Nat) : (s.movePos n).src = s.src := rfl
@[simp] theorem State.movePos_snk (s : State) (n : Nat) : (s.movePos n).snk = s.snk := rfl
@[simp] theorem State.movePos_repDist (s : State) (n : Nat) : (s.movePos n).repDist = s.repDist := rfl
@[simp] theorem State.movePos_lastLength (s : State) (n : Nat) : (s.movePos n).lastLength = s.lastLength := rfl
@[simp] theorem State.movePos_windowPos (s : State) (n : Nat) : (s.movePos n).windowPos = s.windowPos := rfl
@[simp] theorem State.movePos_lzSize (s : State) (n : Nat) : (s.movePos n).lzSize = s.lzSize := rfl
@[simp] theorem State.movePos_lzEnd (s : State) (n : Nat) : (s.movePos n).lzEnd = s.lzEnd := rfl
@[simp] theorem State.movePos_lzWritten (s : State) (n : Nat) : (s.movePos n).lzWritten = s.lzWritten := rfl
@[simp] theorem State.movePos_lzFileStart (s : State) (n : Nat) : (s.movePos n).lzFileStart = s.lzFileStart := rfl
@[simp] theorem State.movePos_limit (s : State) (n : Nat) : (s.movePos n).limit = s.limit := rfl
@[simp] theorem State.movePos_windowSize (s : State) (n : Nat) : (s.movePos n).windowSize = s.windowSize := rfl
@[simp] theorem State.movePos_dictSizeForCheck (s : State) (n : Nat) : (s.movePos n).dictSizeForCheck = s.dictSizeForCheck := rfl
@[simp] theorem State.movePos_pc (s : State) (n : Nat) : (s.movePos n).pc = s.pc + n := rfl
@[simp] theorem State.movePos_blockEnd (s : State) (n : Nat) : (s.movePos n).blockEnd = s.blockEnd := rfl
@[simp] theorem State.movePos_blockEndBits7 (s : State) (n : Nat) : (s.movePos n).blockEndBits7 = s.blockEndBits7 := rfl
@[simp] theorem State.movePos_minorError (s : State) (n : Nat) : (s.movePos n).minorError = s.minorError := rfl
@[simp] theorem State.movePos_isUnsupportedFilter (s : State) (n : Nat) : (s.movePos n).isUnsupportedFilter = s.isUnsupportedFilter := rfl
@[simp] theorem State.movePos_isLastBlock (s : State) (n : Nat) : (s.movePos n).isLastBlock = s.isLastBlock := rfl
@[simp] theorem State.movePos_useAlignBits (s : State) (n : Nat) : (s.movePos n).useAlignBits = s.useAlignBits := rfl
@[simp] theorem State.movePos_tablesFilled (s : State) (n : Nat) : (s.movePos n).tablesFilled = s.tablesFilled := rfl
@[simp] theorem State.movePos_wasFinished (s : State) (n : Nat) : (s.movePos n).wasFinished = s.wasFinished := rfl
@[simp] theorem State.movePos_chainValid (s : State) (n : Nat) : (s.movePos n).chainValid = s.chainValid := rfl
@[simp] theorem State.movePos_props (s : State) (n : Nat) : (s.movePos n).props = s.props := rfl
@[simp] theorem State.movePos_hdrFlags (s : State) (n : Nat) : (s.movePos n).hdrFlags = s.hdrFlags := rfl
@[simp] theorem State.movePos_unpackedSize (s : State) (n : Nat) : (s.movePos n).unpackedSize = s.unpackedSize := rfl
@[simp] theorem State.movePos_sizeDefined (s : State) (n : Nat) : (s.movePos n).sizeDefined = s.sizeDefined := rfl
@[simp] theorem State.movePos_writtenFileSize (s : State) (n : Nat) : (s.movePos n).writtenFileSize = s.writtenFileSize := rfl
@[simp] theorem State.movePos_huff (s : State) (n : Nat) : (s.movePos n).huff = s.huff := rfl
@[simp] theorem State.movePos_level (s : State) (n : Nat) : (s.movePos n).level = s.level := rfl
@[simp] theorem State.movePos_lv (s : State) (n : Nat) : (s.movePos n).lv = s.lv := rfl
@[simp] theorem State.movePos_tbl (s : State) (n : Nat) : (s.movePos n).tbl = s.tbl := rfl
@[simp] theorem State.movePos_pendLen (s : State) (n : Nat) : (s.movePos n).pendLen = s.pendLen := rfl
@[simp] theorem State.movePos_fltDelta (s : State) (n : Nat) : (s.movePos n).fltDelta = s.fltDelta := rfl
@[simp] theorem State.movePos_fltSize (s : State) (n : Nat) : (s.movePos n).fltSize = s.fltSize := rfl
@[simp] theorem State.movePos_queue (s : State) (n : Nat) : (s.movePos n).queue = s.queue := rfl
@[simp] theorem State.movePos_filterEnd (s : State) (n : Nat) : (s.movePos n).filterEnd = s.filterEnd := rfl
@[simp] theorem State.movePos_fb (s : State) (n : Nat) : (s.movePos n).fb = s.fb := rfl
@[simp] theorem State.movePos_window (s : State) (n : Nat) : (s.movePos n).window = s.window := rfl
@[simp] theorem State.movePos_freeCount (s : State) (n : Nat) : (s.movePos n).freeCount = s.freeCount := rfl

/-! `beginWriteStep`. -/

@[simp] theorem beginWriteStep_params (s : State) : (beginWriteStep s).params = s.params := rfl
@[simp] theorem beginWriteStep_phase (s : State) : (beginWriteStep s).phase = .symbols := rfl
@[simp] theorem beginWriteStep_ctrl (s : State) : (beginWriteStep s).ctrl = s.ctrl := rfl
@[simp] theorem beginWriteStep_port (s : State) : (beginWriteStep s).port = s.port := rfl
@[simp] theorem beginWriteStep_status (s : State) : (beginWriteStep s).status = s.status := rfl
@[simp] theorem beginWriteStep_src (s : State) : (beginWriteStep s).src = s.src := rfl
@[simp] theorem beginWriteStep_snk (s : State) : (beginWriteStep s).snk = s.snk := rfl
@[simp] theorem beginWriteStep_repDist (s : State) : (beginWriteStep s).repDist = s.repDist := rfl
@[simp] theorem beginWriteStep_lastLength (s : State) : (beginWriteStep s).lastLength = s.lastLength := rfl
@[simp] theorem beginWriteStep_windowPos (s : State) : (beginWriteStep s).windowPos = s.windowPos := rfl
@[simp] theorem beginWriteStep_lzSize (s : State) : (beginWriteStep s).lzSize = s.lzSize := rfl
@[simp] theorem beginWriteStep_lzEnd (s : State) : (beginWriteStep s).lzEnd = s.lzEnd := rfl
@[simp] theorem beginWriteStep_lzWritten (s : State) : (beginWriteStep s).lzWritten = s.lzWritten := rfl
@[simp] theorem beginWriteStep_lzFileStart (s : State) : (beginWriteStep s).lzFileStart = s.lzFileStart := rfl
@[simp] theorem beginWriteStep_limit (s : State) : (beginWriteStep s).limit = min s.windowSize (s.windowPos + Config.writeStep) := rfl
@[simp] theorem beginWriteStep_windowSize (s : State) : (beginWriteStep s).windowSize = s.windowSize := rfl
@[simp] theorem beginWriteStep_dictSizeForCheck (s : State) : (beginWriteStep s).dictSizeForCheck = s.dictSizeForCheck := rfl
@[simp] theorem beginWriteStep_pc (s : State) : (beginWriteStep s).pc = s.pc := rfl
@[simp] theorem beginWriteStep_blockEnd (s : State) : (beginWriteStep s).blockEnd = s.blockEnd := rfl
@[simp] theorem beginWriteStep_blockEndBits7 (s : State) : (beginWriteStep s).blockEndBits7 = s.blockEndBits7 := rfl
@[simp] theorem beginWriteStep_minorError (s : State) : (beginWriteStep s).minorError = s.minorError := rfl
@[simp] theorem beginWriteStep_isUnsupportedFilter (s : State) : (beginWriteStep s).isUnsupportedFilter = s.isUnsupportedFilter := rfl
@[simp] theorem beginWriteStep_isLastBlock (s : State) : (beginWriteStep s).isLastBlock = s.isLastBlock := rfl
@[simp] theorem beginWriteStep_useAlignBits (s : State) : (beginWriteStep s).useAlignBits = s.useAlignBits := rfl
@[simp] theorem beginWriteStep_tablesFilled (s : State) : (beginWriteStep s).tablesFilled = s.tablesFilled := rfl
@[simp] theorem beginWriteStep_wasFinished (s : State) : (beginWriteStep s).wasFinished = s.wasFinished := rfl
@[simp] theorem beginWriteStep_chainValid (s : State) : (beginWriteStep s).chainValid = s.chainValid := rfl
@[simp] theorem beginWriteStep_props (s : State) : (beginWriteStep s).props = s.props := rfl
@[simp] theorem beginWriteStep_hdrFlags (s : State) : (beginWriteStep s).hdrFlags = s.hdrFlags := rfl
@[simp] theorem beginWriteStep_unpackedSize (s : State) : (beginWriteStep s).unpackedSize = s.unpackedSize := rfl
@[simp] theorem beginWriteStep_sizeDefined (s : State) : (beginWriteStep s).sizeDefined = s.sizeDefined := rfl
@[simp] theorem beginWriteStep_writtenFileSize (s : State) : (beginWriteStep s).writtenFileSize = s.writtenFileSize := rfl
@[simp] theorem beginWriteStep_huff (s : State) : (beginWriteStep s).huff = s.huff := rfl
@[simp] theorem beginWriteStep_level (s : State) : (beginWriteStep s).level = s.level := rfl
@[simp] theorem beginWriteStep_lv (s : State) : (beginWriteStep s).lv = s.lv := rfl
@[simp] theorem beginWriteStep_tbl (s : State) : (beginWriteStep s).tbl = s.tbl := rfl
@[simp] theorem beginWriteStep_pendLen (s : State) : (beginWriteStep s).pendLen = s.pendLen := rfl
@[simp] theorem beginWriteStep_fltDelta (s : State) : (beginWriteStep s).fltDelta = s.fltDelta := rfl
@[simp] theorem beginWriteStep_fltSize (s : State) : (beginWriteStep s).fltSize = s.fltSize := rfl
@[simp] theorem beginWriteStep_queue (s : State) : (beginWriteStep s).queue = s.queue := rfl
@[simp] theorem beginWriteStep_filterEnd (s : State) : (beginWriteStep s).filterEnd = s.filterEnd := rfl
@[simp] theorem beginWriteStep_fb (s : State) : (beginWriteStep s).fb = s.fb := rfl
@[simp] theorem beginWriteStep_window (s : State) : (beginWriteStep s).window = s.window := rfl
@[simp] theorem beginWriteStep_freeCount (s : State) : (beginWriteStep s).freeCount = s.freeCount := rfl

/-! `endDecode`. -/

@[simp] theorem endDecode_params (r : Result) (s : State) : (endDecode r s).params = s.params := rfl
@[simp] theorem endDecode_phase (r : Result) (s : State) : (endDecode r s).phase = .idle := rfl
@[simp] theorem endDecode_ctrl (r : Result) (s : State) : (endDecode r s).ctrl = s.ctrl := rfl
@[simp] theorem endDecode_port (r : Result) (s : State) : (endDecode r s).port = s.port := rfl
@[simp] theorem endDecode_status (r : Result) (s : State) : (endDecode r s).status = s.status ++ [r] := rfl
@[simp] theorem endDecode_src (r : Result) (s : State) : (endDecode r s).src = s.src := rfl
@[simp] theorem endDecode_snk (r : Result) (s : State) : (endDecode r s).snk = s.snk := rfl
@[simp] theorem endDecode_repDist (r : Result) (s : State) : (endDecode r s).repDist = s.repDist := rfl
@[simp] theorem endDecode_lastLength (r : Result) (s : State) : (endDecode r s).lastLength = s.lastLength := rfl
@[simp] theorem endDecode_windowPos (r : Result) (s : State) : (endDecode r s).windowPos = s.windowPos := rfl
@[simp] theorem endDecode_lzSize (r : Result) (s : State) : (endDecode r s).lzSize = s.lzSize := rfl
@[simp] theorem endDecode_lzEnd (r : Result) (s : State) : (endDecode r s).lzEnd = s.lzEnd := rfl
@[simp] theorem endDecode_lzWritten (r : Result) (s : State) : (endDecode r s).lzWritten = s.lzWritten := rfl
@[simp] theorem endDecode_lzFileStart (r : Result) (s : State) : (endDecode r s).lzFileStart = s.lzFileStart := rfl
@[simp] theorem endDecode_limit (r : Result) (s : State) : (endDecode r s).limit = s.limit := rfl
@[simp] theorem endDecode_windowSize (r : Result) (s : State) : (endDecode r s).windowSize = s.windowSize := rfl
@[simp] theorem endDecode_dictSizeForCheck (r : Result) (s : State) : (endDecode r s).dictSizeForCheck = s.dictSizeForCheck := rfl
@[simp] theorem endDecode_pc (r : Result) (s : State) : (endDecode r s).pc = s.pc := rfl
@[simp] theorem endDecode_blockEnd (r : Result) (s : State) : (endDecode r s).blockEnd = s.blockEnd := rfl
@[simp] theorem endDecode_blockEndBits7 (r : Result) (s : State) : (endDecode r s).blockEndBits7 = s.blockEndBits7 := rfl
@[simp] theorem endDecode_minorError (r : Result) (s : State) : (endDecode r s).minorError = s.minorError := rfl
@[simp] theorem endDecode_isUnsupportedFilter (r : Result) (s : State) : (endDecode r s).isUnsupportedFilter = s.isUnsupportedFilter := rfl
@[simp] theorem endDecode_isLastBlock (r : Result) (s : State) : (endDecode r s).isLastBlock = s.isLastBlock := rfl
@[simp] theorem endDecode_useAlignBits (r : Result) (s : State) : (endDecode r s).useAlignBits = s.useAlignBits := rfl
@[simp] theorem endDecode_tablesFilled (r : Result) (s : State) : (endDecode r s).tablesFilled = s.tablesFilled := rfl
@[simp] theorem endDecode_wasFinished (r : Result) (s : State) : (endDecode r s).wasFinished = s.wasFinished := rfl
@[simp] theorem endDecode_chainValid (r : Result) (s : State) : (endDecode r s).chainValid = (decide (r = .ok) && s.sizeDefined) := rfl
@[simp] theorem endDecode_props (r : Result) (s : State) : (endDecode r s).props = s.props := rfl
@[simp] theorem endDecode_hdrFlags (r : Result) (s : State) : (endDecode r s).hdrFlags = s.hdrFlags := rfl
@[simp] theorem endDecode_unpackedSize (r : Result) (s : State) : (endDecode r s).unpackedSize = s.unpackedSize := rfl
@[simp] theorem endDecode_sizeDefined (r : Result) (s : State) : (endDecode r s).sizeDefined = s.sizeDefined := rfl
@[simp] theorem endDecode_writtenFileSize (r : Result) (s : State) : (endDecode r s).writtenFileSize = s.writtenFileSize := rfl
@[simp] theorem endDecode_huff (r : Result) (s : State) : (endDecode r s).huff = s.huff := rfl
@[simp] theorem endDecode_level (r : Result) (s : State) : (endDecode r s).level = s.level := rfl
@[simp] theorem endDecode_lv (r : Result) (s : State) : (endDecode r s).lv = s.lv := rfl
@[simp] theorem endDecode_tbl (r : Result) (s : State) : (endDecode r s).tbl = s.tbl := rfl
@[simp] theorem endDecode_pendLen (r : Result) (s : State) : (endDecode r s).pendLen = s.pendLen := rfl
@[simp] theorem endDecode_fltDelta (r : Result) (s : State) : (endDecode r s).fltDelta = s.fltDelta := rfl
@[simp] theorem endDecode_fltSize (r : Result) (s : State) : (endDecode r s).fltSize = s.fltSize := rfl
@[simp] theorem endDecode_queue (r : Result) (s : State) : (endDecode r s).queue = s.queue := rfl
@[simp] theorem endDecode_filterEnd (r : Result) (s : State) : (endDecode r s).filterEnd = s.filterEnd := rfl
@[simp] theorem endDecode_fb (r : Result) (s : State) : (endDecode r s).fb = s.fb := rfl
@[simp] theorem endDecode_window (r : Result) (s : State) : (endDecode r s).window = s.window := rfl
@[simp] theorem endDecode_freeCount (r : Result) (s : State) : (endDecode r s).freeCount = s.freeCount := rfl

/-! `latchArgs`. -/

@[simp] theorem latchArgs_params (w : BitVec 16) (s : State) : (latchArgs w s).params = s.params := rfl
@[simp] theorem latchArgs_phase (w : BitVec 16) (s : State) : (latchArgs w s).phase = s.phase := rfl
@[simp] theorem latchArgs_ctrl (w : BitVec 16) (s : State) : (latchArgs w s).ctrl = s.ctrl := rfl
@[simp] theorem latchArgs_port (w : BitVec 16) (s : State) : (latchArgs w s).port = s.port := rfl
@[simp] theorem latchArgs_status (w : BitVec 16) (s : State) : (latchArgs w s).status = s.status := rfl
@[simp] theorem latchArgs_src (w : BitVec 16) (s : State) : (latchArgs w s).src = s.port.src := rfl
@[simp] theorem latchArgs_snk (w : BitVec 16) (s : State) : (latchArgs w s).snk = { bytes := [], ioAt := s.port.snkIoAt } := rfl
@[simp] theorem latchArgs_repDist (w : BitVec 16) (s : State) : (latchArgs w s).repDist = s.repDist := rfl
@[simp] theorem latchArgs_lastLength (w : BitVec 16) (s : State) : (latchArgs w s).lastLength = s.lastLength := rfl
@[simp] theorem latchArgs_windowPos (w : BitVec 16) (s : State) : (latchArgs w s).windowPos = s.windowPos := rfl
@[simp] theorem latchArgs_lzSize (w : BitVec 16) (s : State) : (latchArgs w s).lzSize = s.lzSize := rfl
@[simp] theorem latchArgs_lzEnd (w : BitVec 16) (s : State) : (latchArgs w s).lzEnd = s.lzEnd := rfl
@[simp] theorem latchArgs_lzWritten (w : BitVec 16) (s : State) : (latchArgs w s).lzWritten = s.lzWritten := rfl
@[simp] theorem latchArgs_lzFileStart (w : BitVec 16) (s : State) : (latchArgs w s).lzFileStart = s.lzFileStart := rfl
@[simp] theorem latchArgs_limit (w : BitVec 16) (s : State) : (latchArgs w s).limit = s.limit := rfl
@[simp] theorem latchArgs_windowSize (w : BitVec 16) (s : State) : (latchArgs w s).windowSize = s.windowSize := rfl
@[simp] theorem latchArgs_dictSizeForCheck (w : BitVec 16) (s : State) : (latchArgs w s).dictSizeForCheck = s.dictSizeForCheck := rfl
@[simp] theorem latchArgs_pc (w : BitVec 16) (s : State) : (latchArgs w s).pc = s.pc := rfl
@[simp] theorem latchArgs_blockEnd (w : BitVec 16) (s : State) : (latchArgs w s).blockEnd = s.blockEnd := rfl
@[simp] theorem latchArgs_blockEndBits7 (w : BitVec 16) (s : State) : (latchArgs w s).blockEndBits7 = s.blockEndBits7 := rfl
@[simp] theorem latchArgs_minorError (w : BitVec 16) (s : State) : (latchArgs w s).minorError = s.minorError := rfl
@[simp] theorem latchArgs_isUnsupportedFilter (w : BitVec 16) (s : State) : (latchArgs w s).isUnsupportedFilter = s.isUnsupportedFilter := rfl
@[simp] theorem latchArgs_isLastBlock (w : BitVec 16) (s : State) : (latchArgs w s).isLastBlock = s.isLastBlock := rfl
@[simp] theorem latchArgs_useAlignBits (w : BitVec 16) (s : State) : (latchArgs w s).useAlignBits = s.useAlignBits := rfl
@[simp] theorem latchArgs_tablesFilled (w : BitVec 16) (s : State) : (latchArgs w s).tablesFilled = s.tablesFilled := rfl
@[simp] theorem latchArgs_wasFinished (w : BitVec 16) (s : State) : (latchArgs w s).wasFinished = s.wasFinished := rfl
@[simp] theorem latchArgs_chainValid (w : BitVec 16) (s : State) : (latchArgs w s).chainValid = s.chainValid := rfl
@[simp] theorem latchArgs_props (w : BitVec 16) (s : State) : (latchArgs w s).props = w := rfl
@[simp] theorem latchArgs_hdrFlags (w : BitVec 16) (s : State) : (latchArgs w s).hdrFlags = s.hdrFlags := rfl
@[simp] theorem latchArgs_unpackedSize (w : BitVec 16) (s : State) : (latchArgs w s).unpackedSize = s.port.unpackedSize.getD 0 := rfl
@[simp] theorem latchArgs_sizeDefined (w : BitVec 16) (s : State) : (latchArgs w s).sizeDefined = s.port.unpackedSize.isSome := rfl
@[simp] theorem latchArgs_writtenFileSize (w : BitVec 16) (s : State) : (latchArgs w s).writtenFileSize = s.writtenFileSize := rfl
@[simp] theorem latchArgs_huff (w : BitVec 16) (s : State) : (latchArgs w s).huff = s.huff := rfl
@[simp] theorem latchArgs_level (w : BitVec 16) (s : State) : (latchArgs w s).level = s.level := rfl
@[simp] theorem latchArgs_lv (w : BitVec 16) (s : State) : (latchArgs w s).lv = s.lv := rfl
@[simp] theorem latchArgs_tbl (w : BitVec 16) (s : State) : (latchArgs w s).tbl = s.tbl := rfl
@[simp] theorem latchArgs_pendLen (w : BitVec 16) (s : State) : (latchArgs w s).pendLen = s.pendLen := rfl
@[simp] theorem latchArgs_fltDelta (w : BitVec 16) (s : State) : (latchArgs w s).fltDelta = s.fltDelta := rfl
@[simp] theorem latchArgs_fltSize (w : BitVec 16) (s : State) : (latchArgs w s).fltSize = s.fltSize := rfl
@[simp] theorem latchArgs_queue (w : BitVec 16) (s : State) : (latchArgs w s).queue = s.queue := rfl
@[simp] theorem latchArgs_filterEnd (w : BitVec 16) (s : State) : (latchArgs w s).filterEnd = s.filterEnd := rfl
@[simp] theorem latchArgs_fb (w : BitVec 16) (s : State) : (latchArgs w s).fb = s.fb := rfl
@[simp] theorem latchArgs_window (w : BitVec 16) (s : State) : (latchArgs w s).window = s.window := rfl
@[simp] theorem latchArgs_freeCount (w : BitVec 16) (s : State) : (latchArgs w s).freeCount = s.freeCount := rfl

/-! `addLevels`. -/

@[simp] theorem addLevels_params (c n : Nat) (s : State) : (addLevels c n s).params = s.params := rfl
@[simp] theorem addLevels_phase (c n : Nat) (s : State) : (addLevels c n s).phase = .levelNib := rfl
@[simp] theorem addLevels_ctrl (c n : Nat) (s : State) : (addLevels c n s).ctrl = s.ctrl := rfl
@[simp] theorem addLevels_port (c n : Nat) (s : State) : (addLevels c n s).port = s.port := rfl
@[simp] theorem addLevels_status (c n : Nat) (s : State) : (addLevels c n s).status = s.status := rfl
@[simp] theorem addLevels_src (c n : Nat) (s : State) : (addLevels c n s).src = s.src := rfl
@[simp] theorem addLevels_snk (c n : Nat) (s : State) : (addLevels c n s).snk = s.snk := rfl
@[simp] theorem addLevels_repDist (c n : Nat) (s : State) : (addLevels c n s).repDist = s.repDist := rfl
@[simp] theorem addLevels_lastLength (c n : Nat) (s : State) : (addLevels c n s).lastLength = s.lastLength := rfl
@[simp] theorem addLevels_windowPos (c n : Nat) (s : State) : (addLevels c n s).windowPos = s.windowPos := rfl
@[simp] theorem addLevels_lzSize (c n : Nat) (s : State) : (addLevels c n s).lzSize = s.lzSize := rfl
@[simp] theorem addLevels_lzEnd (c n : Nat) (s : State) : (addLevels c n s).lzEnd = s.lzEnd := rfl
@[simp] theorem addLevels_lzWritten (c n : Nat) (s : State) : (addLevels c n s).lzWritten = s.lzWritten := rfl
@[simp] theorem addLevels_lzFileStart (c n : Nat) (s : State) : (addLevels c n s).lzFileStart = s.lzFileStart := rfl
@[simp] theorem addLevels_limit (c n : Nat) (s : State) : (addLevels c n s).limit = s.limit := rfl
@[simp] theorem addLevels_windowSize (c n : Nat) (s : State) : (addLevels c n s).windowSize = s.windowSize := rfl
@[simp] theorem addLevels_dictSizeForCheck (c n : Nat) (s : State) : (addLevels c n s).dictSizeForCheck = s.dictSizeForCheck := rfl
@[simp] theorem addLevels_pc (c n : Nat) (s : State) : (addLevels c n s).pc = s.pc := rfl
@[simp] theorem addLevels_blockEnd (c n : Nat) (s : State) : (addLevels c n s).blockEnd = s.blockEnd := rfl
@[simp] theorem addLevels_blockEndBits7 (c n : Nat) (s : State) : (addLevels c n s).blockEndBits7 = s.blockEndBits7 := rfl
@[simp] theorem addLevels_minorError (c n : Nat) (s : State) : (addLevels c n s).minorError = s.minorError := rfl
@[simp] theorem addLevels_isUnsupportedFilter (c n : Nat) (s : State) : (addLevels c n s).isUnsupportedFilter = s.isUnsupportedFilter := rfl
@[simp] theorem addLevels_isLastBlock (c n : Nat) (s : State) : (addLevels c n s).isLastBlock = s.isLastBlock := rfl
@[simp] theorem addLevels_useAlignBits (c n : Nat) (s : State) : (addLevels c n s).useAlignBits = s.useAlignBits := rfl
@[simp] theorem addLevels_tablesFilled (c n : Nat) (s : State) : (addLevels c n s).tablesFilled = s.tablesFilled := rfl
@[simp] theorem addLevels_wasFinished (c n : Nat) (s : State) : (addLevels c n s).wasFinished = s.wasFinished := rfl
@[simp] theorem addLevels_chainValid (c n : Nat) (s : State) : (addLevels c n s).chainValid = s.chainValid := rfl
@[simp] theorem addLevels_props (c n : Nat) (s : State) : (addLevels c n s).props = s.props := rfl
@[simp] theorem addLevels_hdrFlags (c n : Nat) (s : State) : (addLevels c n s).hdrFlags = s.hdrFlags := rfl
@[simp] theorem addLevels_unpackedSize (c n : Nat) (s : State) : (addLevels c n s).unpackedSize = s.unpackedSize := rfl
@[simp] theorem addLevels_sizeDefined (c n : Nat) (s : State) : (addLevels c n s).sizeDefined = s.sizeDefined := rfl
@[simp] theorem addLevels_writtenFileSize (c n : Nat) (s : State) : (addLevels c n s).writtenFileSize = s.writtenFileSize := rfl
@[simp] theorem addLevels_huff (c n : Nat) (s : State) : (addLevels c n s).huff = s.huff := rfl
@[simp] theorem addLevels_level (c n : Nat) (s : State) : (addLevels c n s).level = s.level := rfl
@[simp] theorem addLevels_lv (c n : Nat) (s : State) : (addLevels c n s).lv = s.lv ++ List.replicate (min c (Config.levelSize - s.lv.length)) n := rfl
@[simp] theorem addLevels_tbl (c n : Nat) (s : State) : (addLevels c n s).tbl = s.tbl := rfl
@[simp] theorem addLevels_pendLen (c n : Nat) (s : State) : (addLevels c n s).pendLen = s.pendLen := rfl
@[simp] theorem addLevels_fltDelta (c n : Nat) (s : State) : (addLevels c n s).fltDelta = s.fltDelta := rfl
@[simp] theorem addLevels_fltSize (c n : Nat) (s : State) : (addLevels c n s).fltSize = s.fltSize := rfl
@[simp] theorem addLevels_queue (c n : Nat) (s : State) : (addLevels c n s).queue = s.queue := rfl
@[simp] theorem addLevels_filterEnd (c n : Nat) (s : State) : (addLevels c n s).filterEnd = s.filterEnd := rfl
@[simp] theorem addLevels_fb (c n : Nat) (s : State) : (addLevels c n s).fb = s.fb := rfl
@[simp] theorem addLevels_window (c n : Nat) (s : State) : (addLevels c n s).window = s.window := rfl
@[simp] theorem addLevels_freeCount (c n : Nat) (s : State) : (addLevels c n s).freeCount = s.freeCount := rfl

/-! `addLengths`. -/

@[simp] theorem addLengths_params (c v : Nat) (s : State) : (addLengths c v s).params = s.params := rfl
@[simp] theorem addLengths_phase (c v : Nat) (s : State) : (addLengths c v s).phase = s.phase := rfl
@[simp] theorem addLengths_ctrl (c v : Nat) (s : State) : (addLengths c v s).ctrl = s.ctrl := rfl
@[simp] theorem addLengths_port (c v : Nat) (s : State) : (addLengths c v s).port = s.port := rfl
@[simp] theorem addLengths_status (c v : Nat) (s : State) : (addLengths c v s).status = s.status := rfl
@[simp] theorem addLengths_src (c v : Nat) (s : State) : (addLengths c v s).src = s.src := rfl
@[simp] theorem addLengths_snk (c v : Nat) (s : State) : (addLengths c v s).snk = s.snk := rfl
@[simp] theorem addLengths_repDist (c v : Nat) (s : State) : (addLengths c v s).repDist = s.repDist := rfl
@[simp] theorem addLengths_lastLength (c v : Nat) (s : State) : (addLengths c v s).lastLength = s.lastLength := rfl
@[simp] theorem addLengths_windowPos (c v : Nat) (s : State) : (addLengths c v s).windowPos = s.windowPos := rfl
@[simp] theorem addLengths_lzSize (c v : Nat) (s : State) : (addLengths c v s).lzSize = s.lzSize := rfl
@[simp] theorem addLengths_lzEnd (c v : Nat) (s : State) : (addLengths c v s).lzEnd = s.lzEnd := rfl
@[simp] theorem addLengths_lzWritten (c v : Nat) (s : State) : (addLengths c v s).lzWritten = s.lzWritten := rfl
@[simp] theorem addLengths_lzFileStart (c v : Nat) (s : State) : (addLengths c v s).lzFileStart = s.lzFileStart := rfl
@[simp] theorem addLengths_limit (c v : Nat) (s : State) : (addLengths c v s).limit = s.limit := rfl
@[simp] theorem addLengths_windowSize (c v : Nat) (s : State) : (addLengths c v s).windowSize = s.windowSize := rfl
@[simp] theorem addLengths_dictSizeForCheck (c v : Nat) (s : State) : (addLengths c v s).dictSizeForCheck = s.dictSizeForCheck := rfl
@[simp] theorem addLengths_pc (c v : Nat) (s : State) : (addLengths c v s).pc = s.pc := rfl
@[simp] theorem addLengths_blockEnd (c v : Nat) (s : State) : (addLengths c v s).blockEnd = s.blockEnd := rfl
@[simp] theorem addLengths_blockEndBits7 (c v : Nat) (s : State) : (addLengths c v s).blockEndBits7 = s.blockEndBits7 := rfl
@[simp] theorem addLengths_minorError (c v : Nat) (s : State) : (addLengths c v s).minorError = s.minorError := rfl
@[simp] theorem addLengths_isUnsupportedFilter (c v : Nat) (s : State) : (addLengths c v s).isUnsupportedFilter = s.isUnsupportedFilter := rfl
@[simp] theorem addLengths_isLastBlock (c v : Nat) (s : State) : (addLengths c v s).isLastBlock = s.isLastBlock := rfl
@[simp] theorem addLengths_useAlignBits (c v : Nat) (s : State) : (addLengths c v s).useAlignBits = s.useAlignBits := rfl
@[simp] theorem addLengths_tablesFilled (c v : Nat) (s : State) : (addLengths c v s).tablesFilled = s.tablesFilled := rfl
@[simp] theorem addLengths_wasFinished (c v : Nat) (s : State) : (addLengths c v s).wasFinished = s.wasFinished := rfl
@[simp] theorem addLengths_chainValid (c v : Nat) (s : State) : (addLengths c v s).chainValid = s.chainValid := rfl
@[simp] theorem addLengths_props (c v : Nat) (s : State) : (addLengths c v s).props = s.props := rfl
@[simp] theorem addLengths_hdrFlags (c v : Nat) (s : State) : (addLengths c v s).hdrFlags = s.hdrFlags := rfl
@[simp] theorem addLengths_unpackedSize (c v : Nat) (s : State) : (addLengths c v s).unpackedSize = s.unpackedSize := rfl
@[simp] theorem addLengths_sizeDefined (c v : Nat) (s : State) : (addLengths c v s).sizeDefined = s.sizeDefined := rfl
@[simp] theorem addLengths_writtenFileSize (c v : Nat) (s : State) : (addLengths c v s).writtenFileSize = s.writtenFileSize := rfl
@[simp] theorem addLengths_huff (c v : Nat) (s : State) : (addLengths c v s).huff = s.huff := rfl
@[simp] theorem addLengths_level (c v : Nat) (s : State) : (addLengths c v s).level = s.level := rfl
@[simp] theorem addLengths_lv (c v : Nat) (s : State) : (addLengths c v s).lv = s.lv := rfl
@[simp] theorem addLengths_tbl (c v : Nat) (s : State) : (addLengths c v s).tbl = s.tbl ++ List.replicate (min c (s.tableTotal - s.tbl.length)) v := rfl
@[simp] theorem addLengths_pendLen (c v : Nat) (s : State) : (addLengths c v s).pendLen = s.pendLen := rfl
@[simp] theorem addLengths_fltDelta (c v : Nat) (s : State) : (addLengths c v s).fltDelta = s.fltDelta := rfl
@[simp] theorem addLengths_fltSize (c v : Nat) (s : State) : (addLengths c v s).fltSize = s.fltSize := rfl
@[simp] theorem addLengths_queue (c v : Nat) (s : State) : (addLengths c v s).queue = s.queue := rfl
@[simp] theorem addLengths_filterEnd (c v : Nat) (s : State) : (addLengths c v s).filterEnd = s.filterEnd := rfl
@[simp] theorem addLengths_fb (c v : Nat) (s : State) : (addLengths c v s).fb = s.fb := rfl
@[simp] theorem addLengths_window (c v : Nat) (s : State) : (addLengths c v s).window = s.window := rfl
@[simp] theorem addLengths_freeCount (c v : Nat) (s : State) : (addLengths c v s).freeCount = s.freeCount := rfl

/-! `useRep`. -/

@[simp] theorem useRep_params (k : Nat) (s : State) : (useRep k s).params = s.params := rfl
@[simp] theorem useRep_phase (k : Nat) (s : State) : (useRep k s).phase = .lenSlot := rfl
@[simp] theorem useRep_ctrl (k : Nat) (s : State) : (useRep k s).ctrl = s.ctrl := rfl
@[simp] theorem useRep_port (k : Nat) (s : State) : (useRep k s).port = s.port := rfl
@[simp] theorem useRep_status (k : Nat) (s : State) : (useRep k s).status = s.status := rfl
@[simp] theorem useRep_src (k : Nat) (s : State) : (useRep k s).src = s.src := rfl
@[simp] theorem useRep_snk (k : Nat) (s : State) : (useRep k s).snk = s.snk := rfl
@[simp] theorem useRep_repDist (k : Nat) (s : State) : (useRep k s).repDist = s.repDist.moveToFront k := rfl
@[simp] theorem useRep_lastLength (k : Nat) (s : State) : (useRep k s).lastLength = s.lastLength := rfl
@[simp] theorem useRep_windowPos (k : Nat) (s : State) : (useRep k s).windowPos = s.windowPos := rfl
@[simp] theorem useRep_lzSize (k : Nat) (s : State) : (useRep k s).lzSize = s.lzSize := rfl
@[simp] theorem useRep_lzEnd (k : Nat) (s : State) : (useRep k s).lzEnd = s.lzEnd := rfl
@[simp] theorem useRep_lzWritten (k : Nat) (s : State) : (useRep k s).lzWritten = s.lzWritten := rfl
@[simp] theorem useRep_lzFileStart (k : Nat) (s : State) : (useRep k s).lzFileStart = s.lzFileStart := rfl
@[simp] theorem useRep_limit (k : Nat) (s : State) : (useRep k s).limit = s.limit := rfl
@[simp] theorem useRep_windowSize (k : Nat) (s : State) : (useRep k s).windowSize = s.windowSize := rfl
@[simp] theorem useRep_dictSizeForCheck (k : Nat) (s : State) : (useRep k s).dictSizeForCheck = s.dictSizeForCheck := rfl
@[simp] theorem useRep_pc (k : Nat) (s : State) : (useRep k s).pc = s.pc := rfl
@[simp] theorem useRep_blockEnd (k : Nat) (s : State) : (useRep k s).blockEnd = s.blockEnd := rfl
@[simp] theorem useRep_blockEndBits7 (k : Nat) (s : State) : (useRep k s).blockEndBits7 = s.blockEndBits7 := rfl
@[simp] theorem useRep_minorError (k : Nat) (s : State) : (useRep k s).minorError = s.minorError := rfl
@[simp] theorem useRep_isUnsupportedFilter (k : Nat) (s : State) : (useRep k s).isUnsupportedFilter = s.isUnsupportedFilter := rfl
@[simp] theorem useRep_isLastBlock (k : Nat) (s : State) : (useRep k s).isLastBlock = s.isLastBlock := rfl
@[simp] theorem useRep_useAlignBits (k : Nat) (s : State) : (useRep k s).useAlignBits = s.useAlignBits := rfl
@[simp] theorem useRep_tablesFilled (k : Nat) (s : State) : (useRep k s).tablesFilled = s.tablesFilled := rfl
@[simp] theorem useRep_wasFinished (k : Nat) (s : State) : (useRep k s).wasFinished = s.wasFinished := rfl
@[simp] theorem useRep_chainValid (k : Nat) (s : State) : (useRep k s).chainValid = s.chainValid := rfl
@[simp] theorem useRep_props (k : Nat) (s : State) : (useRep k s).props = s.props := rfl
@[simp] theorem useRep_hdrFlags (k : Nat) (s : State) : (useRep k s).hdrFlags = s.hdrFlags := rfl
@[simp] theorem useRep_unpackedSize (k : Nat) (s : State) : (useRep k s).unpackedSize = s.unpackedSize := rfl
@[simp] theorem useRep_sizeDefined (k : Nat) (s : State) : (useRep k s).sizeDefined = s.sizeDefined := rfl
@[simp] theorem useRep_writtenFileSize (k : Nat) (s : State) : (useRep k s).writtenFileSize = s.writtenFileSize := rfl
@[simp] theorem useRep_huff (k : Nat) (s : State) : (useRep k s).huff = s.huff := rfl
@[simp] theorem useRep_level (k : Nat) (s : State) : (useRep k s).level = s.level := rfl
@[simp] theorem useRep_lv (k : Nat) (s : State) : (useRep k s).lv = s.lv := rfl
@[simp] theorem useRep_tbl (k : Nat) (s : State) : (useRep k s).tbl = s.tbl := rfl
@[simp] theorem useRep_pendLen (k : Nat) (s : State) : (useRep k s).pendLen = s.pendLen := rfl
@[simp] theorem useRep_fltDelta (k : Nat) (s : State) : (useRep k s).fltDelta = s.fltDelta := rfl
@[simp] theorem useRep_fltSize (k : Nat) (s : State) : (useRep k s).fltSize = s.fltSize := rfl
@[simp] theorem useRep_queue (k : Nat) (s : State) : (useRep k s).queue = s.queue := rfl
@[simp] theorem useRep_filterEnd (k : Nat) (s : State) : (useRep k s).filterEnd = s.filterEnd := rfl
@[simp] theorem useRep_fb (k : Nat) (s : State) : (useRep k s).fb = s.fb := rfl
@[simp] theorem useRep_window (k : Nat) (s : State) : (useRep k s).window = s.window := rfl
@[simp] theorem useRep_freeCount (k : Nat) (s : State) : (useRep k s).freeCount = s.freeCount := rfl

/-! `matchLength`. -/

@[simp] theorem matchLength_params (n x : Nat) (s : State) : (matchLength n x s).params = s.params := rfl
@[simp] theorem matchLength_phase (n x : Nat) (s : State) : (matchLength n x s).phase = .distSlot := rfl
@[simp] theorem matchLength_ctrl (n x : Nat) (s : State) : (matchLength n x s).ctrl = s.ctrl := rfl
@[simp] theorem matchLength_port (n x : Nat) (s : State) : (matchLength n x s).port = s.port := rfl
@[simp] theorem matchLength_status (n x : Nat) (s : State) : (matchLength n x s).status = s.status := rfl
@[simp] theorem matchLength_src (n x : Nat) (s : State) : (matchLength n x s).src = s.src := rfl
@[simp] theorem matchLength_snk (n x : Nat) (s : State) : (matchLength n x s).snk = s.snk := rfl
@[simp] theorem matchLength_repDist (n x : Nat) (s : State) : (matchLength n x s).repDist = s.repDist := rfl
@[simp] theorem matchLength_lastLength (n x : Nat) (s : State) : (matchLength n x s).lastLength = s.lastLength := rfl
@[simp] theorem matchLength_windowPos (n x : Nat) (s : State) : (matchLength n x s).windowPos = s.windowPos := rfl
@[simp] theorem matchLength_lzSize (n x : Nat) (s : State) : (matchLength n x s).lzSize = s.lzSize := rfl
@[simp] theorem matchLength_lzEnd (n x : Nat) (s : State) : (matchLength n x s).lzEnd = s.lzEnd := rfl
@[simp] theorem matchLength_lzWritten (n x : Nat) (s : State) : (matchLength n x s).lzWritten = s.lzWritten := rfl
@[simp] theorem matchLength_lzFileStart (n x : Nat) (s : State) : (matchLength n x s).lzFileStart = s.lzFileStart := rfl
@[simp] theorem matchLength_limit (n x : Nat) (s : State) : (matchLength n x s).limit = s.limit := rfl
@[simp] theorem matchLength_windowSize (n x : Nat) (s : State) : (matchLength n x s).windowSize = s.windowSize := rfl
@[simp] theorem matchLength_dictSizeForCheck (n x : Nat) (s : State) : (matchLength n x s).dictSizeForCheck = s.dictSizeForCheck := rfl
@[simp] theorem matchLength_pc (n x : Nat) (s : State) : (matchLength n x s).pc = s.pc := rfl
@[simp] theorem matchLength_blockEnd (n x : Nat) (s : State) : (matchLength n x s).blockEnd = s.blockEnd := rfl
@[simp] theorem matchLength_blockEndBits7 (n x : Nat) (s : State) : (matchLength n x s).blockEndBits7 = s.blockEndBits7 := rfl
@[simp] theorem matchLength_minorError (n x : Nat) (s : State) : (matchLength n x s).minorError = s.minorError := rfl
@[simp] theorem matchLength_isUnsupportedFilter (n x : Nat) (s : State) : (matchLength n x s).isUnsupportedFilter = s.isUnsupportedFilter := rfl
@[simp] theorem matchLength_isLastBlock (n x : Nat) (s : State) : (matchLength n x s).isLastBlock = s.isLastBlock := rfl
@[simp] theorem matchLength_useAlignBits (n x : Nat) (s : State) : (matchLength n x s).useAlignBits = s.useAlignBits := rfl
@[simp] theorem matchLength_tablesFilled (n x : Nat) (s : State) : (matchLength n x s).tablesFilled = s.tablesFilled := rfl
@[simp] theorem matchLength_wasFinished (n x : Nat) (s : State) : (matchLength n x s).wasFinished = s.wasFinished := rfl
@[simp] theorem matchLength_chainValid (n x : Nat) (s : State) : (matchLength n x s).chainValid = s.chainValid := rfl
@[simp] theorem matchLength_props (n x : Nat) (s : State) : (matchLength n x s).props = s.props := rfl
@[simp] theorem matchLength_hdrFlags (n x : Nat) (s : State) : (matchLength n x s).hdrFlags = s.hdrFlags := rfl
@[simp] theorem matchLength_unpackedSize (n x : Nat) (s : State) : (matchLength n x s).unpackedSize = s.unpackedSize := rfl
@[simp] theorem matchLength_sizeDefined (n x : Nat) (s : State) : (matchLength n x s).sizeDefined = s.sizeDefined := rfl
@[simp] theorem matchLength_writtenFileSize (n x : Nat) (s : State) : (matchLength n x s).writtenFileSize = s.writtenFileSize := rfl
@[simp] theorem matchLength_huff (n x : Nat) (s : State) : (matchLength n x s).huff = s.huff := rfl
@[simp] theorem matchLength_level (n x : Nat) (s : State) : (matchLength n x s).level = s.level := rfl
@[simp] theorem matchLength_lv (n x : Nat) (s : State) : (matchLength n x s).lv = s.lv := rfl
@[simp] theorem matchLength_tbl (n x : Nat) (s : State) : (matchLength n x s).tbl = s.tbl := rfl
@[simp] theorem matchLength_pendLen (n x : Nat) (s : State) : (matchLength n x s).pendLen = Operands.slotToLen n x := rfl
@[simp] theorem matchLength_fltDelta (n x : Nat) (s : State) : (matchLength n x s).fltDelta = s.fltDelta := rfl
@[simp] theorem matchLength_fltSize (n x : Nat) (s : State) : (matchLength n x s).fltSize = s.fltSize := rfl
@[simp] theorem matchLength_queue (n x : Nat) (s : State) : (matchLength n x s).queue = s.queue := rfl
@[simp] theorem matchLength_filterEnd (n x : Nat) (s : State) : (matchLength n x s).filterEnd = s.filterEnd := rfl
@[simp] theorem matchLength_fb (n x : Nat) (s : State) : (matchLength n x s).fb = s.fb := rfl
@[simp] theorem matchLength_window (n x : Nat) (s : State) : (matchLength n x s).window = s.window := rfl
@[simp] theorem matchLength_freeCount (n x : Nat) (s : State) : (matchLength n x s).freeCount = s.freeCount := rfl

/-! `matchRegisters`. -/

@[simp] theorem matchRegisters_params (d n : Nat) (s : State) : (matchRegisters d n s).params = s.params := rfl
@[simp] theorem matchRegisters_phase (d n : Nat) (s : State) : (matchRegisters d n s).phase = .symbols := rfl
@[simp] theorem matchRegisters_ctrl (d n : Nat) (s : State) : (matchRegisters d n s).ctrl = s.ctrl := rfl
@[simp] theorem matchRegisters_port (d n : Nat) (s : State) : (matchRegisters d n s).port = s.port := rfl
@[simp] theorem matchRegisters_status (d n : Nat) (s : State) : (matchRegisters d n s).status = s.status := rfl
@[simp] theorem matchRegisters_src (d n : Nat) (s : State) : (matchRegisters d n s).src = s.src := rfl
@[simp] theorem matchRegisters_snk (d n : Nat) (s : State) : (matchRegisters d n s).snk = s.snk := rfl
@[simp] theorem matchRegisters_repDist (d n : Nat) (s : State) : (matchRegisters d n s).repDist = s.repDist.shiftIn (BitVec.ofNat 32 d) := rfl
@[simp] theorem matchRegisters_lastLength (d n : Nat) (s : State) : (matchRegisters d n s).lastLength = n := rfl
@[simp] theorem matchRegisters_windowPos (d n : Nat) (s : State) : (matchRegisters d n s).windowPos = s.windowPos := rfl
@[simp] theorem matchRegisters_lzSize (d n : Nat) (s : State) : (matchRegisters d n s).lzSize = s.lzSize := rfl
@[simp] theorem matchRegisters_lzEnd (d n : Nat) (s : State) : (matchRegisters d n s).lzEnd = s.lzEnd := rfl
@[simp] theorem matchRegisters_lzWritten (d n : Nat) (s : State) : (matchRegisters d n s).lzWritten = s.lzWritten := rfl
@[simp] theorem matchRegisters_lzFileStart (d n : Nat) (s : State) : (matchRegisters d n s).lzFileStart = s.lzFileStart := rfl
@[simp] theorem matchRegisters_limit (d n : Nat) (s : State) : (matchRegisters d n s).limit = s.limit := rfl
@[simp] theorem matchRegisters_windowSize (d n : Nat) (s : State) : (matchRegisters d n s).windowSize = s.windowSize := rfl
@[simp] theorem matchRegisters_dictSizeForCheck (d n : Nat) (s : State) : (matchRegisters d n s).dictSizeForCheck = s.dictSizeForCheck := rfl
@[simp] theorem matchRegisters_pc (d n : Nat) (s : State) : (matchRegisters d n s).pc = s.pc := rfl
@[simp] theorem matchRegisters_blockEnd (d n : Nat) (s : State) : (matchRegisters d n s).blockEnd = s.blockEnd := rfl
@[simp] theorem matchRegisters_blockEndBits7 (d n : Nat) (s : State) : (matchRegisters d n s).blockEndBits7 = s.blockEndBits7 := rfl
@[simp] theorem matchRegisters_minorError (d n : Nat) (s : State) : (matchRegisters d n s).minorError = s.minorError := rfl
@[simp] theorem matchRegisters_isUnsupportedFilter (d n : Nat) (s : State) : (matchRegisters d n s).isUnsupportedFilter = s.isUnsupportedFilter := rfl
@[simp] theorem matchRegisters_isLastBlock (d n : Nat) (s : State) : (matchRegisters d n s).isLastBlock = s.isLastBlock := rfl
@[simp] theorem matchRegisters_useAlignBits (d n : Nat) (s : State) : (matchRegisters d n s).useAlignBits = s.useAlignBits := rfl
@[simp] theorem matchRegisters_tablesFilled (d n : Nat) (s : State) : (matchRegisters d n s).tablesFilled = s.tablesFilled := rfl
@[simp] theorem matchRegisters_wasFinished (d n : Nat) (s : State) : (matchRegisters d n s).wasFinished = s.wasFinished := rfl
@[simp] theorem matchRegisters_chainValid (d n : Nat) (s : State) : (matchRegisters d n s).chainValid = s.chainValid := rfl
@[simp] theorem matchRegisters_props (d n : Nat) (s : State) : (matchRegisters d n s).props = s.props := rfl
@[simp] theorem matchRegisters_hdrFlags (d n : Nat) (s : State) : (matchRegisters d n s).hdrFlags = s.hdrFlags := rfl
@[simp] theorem matchRegisters_unpackedSize (d n : Nat) (s : State) : (matchRegisters d n s).unpackedSize = s.unpackedSize := rfl
@[simp] theorem matchRegisters_sizeDefined (d n : Nat) (s : State) : (matchRegisters d n s).sizeDefined = s.sizeDefined := rfl
@[simp] theorem matchRegisters_writtenFileSize (d n : Nat) (s : State) : (matchRegisters d n s).writtenFileSize = s.writtenFileSize := rfl
@[simp] theorem matchRegisters_huff (d n : Nat) (s : State) : (matchRegisters d n s).huff = s.huff := rfl
@[simp] theorem matchRegisters_level (d n : Nat) (s : State) : (matchRegisters d n s).level = s.level := rfl
@[simp] theorem matchRegisters_lv (d n : Nat) (s : State) : (matchRegisters d n s).lv = s.lv := rfl
@[simp] theorem matchRegisters_tbl (d n : Nat) (s : State) : (matchRegisters d n s).tbl = s.tbl := rfl
@[simp] theorem matchRegisters_pendLen (d n : Nat) (s : State) : (matchRegisters d n s).pendLen = s.pendLen := rfl
@[simp] theorem matchRegisters_fltDelta (d n : Nat) (s : State) : (matchRegisters d n s).fltDelta = s.fltDelta := rfl
@[simp] theorem matchRegisters_fltSize (d n : Nat) (s : State) : (matchRegisters d n s).fltSize = s.fltSize := rfl
@[simp] theorem matchRegisters_queue (d n : Nat) (s : State) : (matchRegisters d n s).queue = s.queue := rfl
@[simp] theorem matchRegisters_filterEnd (d n : Nat) (s : State) : (matchRegisters d n s).filterEnd = s.filterEnd := rfl
@[simp] theorem matchRegisters_fb (d n : Nat) (s : State) : (matchRegisters d n s).fb = s.fb := rfl
@[simp] theorem matchRegisters_window (d n : Nat) (s : State) : (matchRegisters d n s).window = s.window := rfl
@[simp] theorem matchRegisters_freeCount (d n : Nat) (s : State) : (matchRegisters d n s).freeCount = s.freeCount := rfl

/-! `beginTables`. -/

@[simp] theorem beginTables_params (s : State) : (beginTables s).params = s.params := rfl
@[simp] theorem beginTables_phase (s : State) : (beginTables s).phase = .levelNib := rfl
@[simp] theorem beginTables_ctrl (s : State) : (beginTables s).ctrl = s.ctrl := rfl
@[simp] theorem beginTables_port (s : State) : (beginTables s).port = s.port := rfl
@[simp] theorem beginTables_status (s : State) : (beginTables s).status = s.status := rfl
@[simp] theorem beginTables_src (s : State) : (beginTables s).src = s.src := rfl
@[simp] theorem beginTables_snk (s : State) : (beginTables s).snk = s.snk := rfl
@[simp] theorem beginTables_repDist (s : State) : (beginTables s).repDist = s.repDist := rfl
@[simp] theorem beginTables_lastLength (s : State) : (beginTables s).lastLength = s.lastLength := rfl
@[simp] theorem beginTables_windowPos (s : State) : (beginTables s).windowPos = s.windowPos := rfl
@[simp] theorem beginTables_lzSize (s : State) : (beginTables s).lzSize = s.lzSize := rfl
@[simp] theorem beginTables_lzEnd (s : State) : (beginTables s).lzEnd = s.lzEnd := rfl
@[simp] theorem beginTables_lzWritten (s : State) : (beginTables s).lzWritten = s.lzWritten := rfl
@[simp] theorem beginTables_lzFileStart (s : State) : (beginTables s).lzFileStart = s.lzFileStart := rfl
@[simp] theorem beginTables_limit (s : State) : (beginTables s).limit = s.limit := rfl
@[simp] theorem beginTables_windowSize (s : State) : (beginTables s).windowSize = s.windowSize := rfl
@[simp] theorem beginTables_dictSizeForCheck (s : State) : (beginTables s).dictSizeForCheck = s.dictSizeForCheck := rfl
@[simp] theorem beginTables_pc (s : State) : (beginTables s).pc = s.pc := rfl
@[simp] theorem beginTables_blockEnd (s : State) : (beginTables s).blockEnd = s.blockEnd := rfl
@[simp] theorem beginTables_blockEndBits7 (s : State) : (beginTables s).blockEndBits7 = s.blockEndBits7 := rfl
@[simp] theorem beginTables_minorError (s : State) : (beginTables s).minorError = s.minorError := rfl
@[simp] theorem beginTables_isUnsupportedFilter (s : State) : (beginTables s).isUnsupportedFilter = s.isUnsupportedFilter := rfl
@[simp] theorem beginTables_isLastBlock (s : State) : (beginTables s).isLastBlock = s.isLastBlock := rfl
@[simp] theorem beginTables_useAlignBits (s : State) : (beginTables s).useAlignBits = s.useAlignBits := rfl
@[simp] theorem beginTables_tablesFilled (s : State) : (beginTables s).tablesFilled = false := rfl
@[simp] theorem beginTables_wasFinished (s : State) : (beginTables s).wasFinished = s.wasFinished := rfl
@[simp] theorem beginTables_chainValid (s : State) : (beginTables s).chainValid = s.chainValid := rfl
@[simp] theorem beginTables_props (s : State) : (beginTables s).props = s.props := rfl
@[simp] theorem beginTables_hdrFlags (s : State) : (beginTables s).hdrFlags = s.hdrFlags := rfl
@[simp] theorem beginTables_unpackedSize (s : State) : (beginTables s).unpackedSize = s.unpackedSize := rfl
@[simp] theorem beginTables_sizeDefined (s : State) : (beginTables s).sizeDefined = s.sizeDefined := rfl
@[simp] theorem beginTables_writtenFileSize (s : State) : (beginTables s).writtenFileSize = s.writtenFileSize := rfl
@[simp] theorem beginTables_huff (s : State) : (beginTables s).huff = s.huff := rfl
@[simp] theorem beginTables_level (s : State) : (beginTables s).level = s.level := rfl
@[simp] theorem beginTables_lv (s : State) : (beginTables s).lv = [] := rfl
@[simp] theorem beginTables_tbl (s : State) : (beginTables s).tbl = s.tbl := rfl
@[simp] theorem beginTables_pendLen (s : State) : (beginTables s).pendLen = s.pendLen := rfl
@[simp] theorem beginTables_fltDelta (s : State) : (beginTables s).fltDelta = s.fltDelta := rfl
@[simp] theorem beginTables_fltSize (s : State) : (beginTables s).fltSize = s.fltSize := rfl
@[simp] theorem beginTables_queue (s : State) : (beginTables s).queue = s.queue := rfl
@[simp] theorem beginTables_filterEnd (s : State) : (beginTables s).filterEnd = s.filterEnd := rfl
@[simp] theorem beginTables_fb (s : State) : (beginTables s).fb = s.fb := rfl
@[simp] theorem beginTables_window (s : State) : (beginTables s).window = s.window := rfl
@[simp] theorem beginTables_freeCount (s : State) : (beginTables s).freeCount = s.freeCount := rfl

/-! `fullReset`. -/

@[simp] theorem fullReset_params (s : State) : (fullReset s).params = s.params := rfl
@[simp] theorem fullReset_phase (s : State) : (fullReset s).phase = s.phase := rfl
@[simp] theorem fullReset_ctrl (s : State) : (fullReset s).ctrl = s.ctrl := rfl
@[simp] theorem fullReset_port (s : State) : (fullReset s).port = s.port := rfl
@[simp] theorem fullReset_status (s : State) : (fullReset s).status = s.status := rfl
@[simp] theorem fullReset_src (s : State) : (fullReset s).src = s.src := rfl
@[simp] theorem fullReset_snk (s : State) : (fullReset s).snk = s.snk := rfl
@[simp] theorem fullReset_repDist (s : State) : (fullReset s).repDist = RepDist.reset := rfl
@[simp] theorem fullReset_lastLength (s : State) : (fullReset s).lastLength = 0 := rfl
@[simp] theorem fullReset_windowPos (s : State) : (fullReset s).windowPos = 0 := rfl
@[simp] theorem fullReset_lzSize (s : State) : (fullReset s).lzSize = 0 := rfl
@[simp] theorem fullReset_lzEnd (s : State) : (fullReset s).lzEnd = 0 := rfl
@[simp] theorem fullReset_lzWritten (s : State) : (fullReset s).lzWritten = 0 := rfl
@[simp] theorem fullReset_lzFileStart (s : State) : (fullReset s).lzFileStart = 0 := rfl
@[simp] theorem fullReset_limit (s : State) : (fullReset s).limit = s.limit := rfl
@[simp] theorem fullReset_windowSize (s : State) : (fullReset s).windowSize = s.windowSize := rfl
@[simp] theorem fullReset_dictSizeForCheck (s : State) : (fullReset s).dictSizeForCheck = s.dictSizeForCheck := rfl
@[simp] theorem fullReset_pc (s : State) : (fullReset s).pc = 0 := rfl
@[simp] theorem fullReset_blockEnd (s : State) : (fullReset s).blockEnd = 0 := rfl
@[simp] theorem fullReset_blockEndBits7 (s : State) : (fullReset s).blockEndBits7 = 0 := rfl
@[simp] theorem fullReset_minorError (s : State) : (fullReset s).minorError = false := rfl
@[simp] theorem fullReset_isUnsupportedFilter (s : State) : (fullReset s).isUnsupportedFilter = false := rfl
@[simp] theorem fullReset_isLastBlock (s : State) : (fullReset s).isLastBlock = false := rfl
@[simp] theorem fullReset_useAlignBits (s : State) : (fullReset s).useAlignBits = false := rfl
@[simp] theorem fullReset_tablesFilled (s : State) : (fullReset s).tablesFilled = false := rfl
@[simp] theorem fullReset_wasFinished (s : State) : (fullReset s).wasFinished = false := rfl
@[simp] theorem fullReset_chainValid (s : State) : (fullReset s).chainValid = s.chainValid := rfl
@[simp] theorem fullReset_props (s : State) : (fullReset s).props = s.props := rfl
@[simp] theorem fullReset_hdrFlags (s : State) : (fullReset s).hdrFlags = s.hdrFlags := rfl
@[simp] theorem fullReset_unpackedSize (s : State) : (fullReset s).unpackedSize = s.unpackedSize := rfl
@[simp] theorem fullReset_sizeDefined (s : State) : (fullReset s).sizeDefined = s.sizeDefined := rfl
@[simp] theorem fullReset_writtenFileSize (s : State) : (fullReset s).writtenFileSize = 0 := rfl
@[simp] theorem fullReset_huff (s : State) : (fullReset s).huff = HuffSet.reset s.params := rfl
@[simp] theorem fullReset_level (s : State) : (fullReset s).level = s.level := rfl
@[simp] theorem fullReset_lv (s : State) : (fullReset s).lv = s.lv := rfl
@[simp] theorem fullReset_tbl (s : State) : (fullReset s).tbl = s.tbl := rfl
@[simp] theorem fullReset_pendLen (s : State) : (fullReset s).pendLen = s.pendLen := rfl
@[simp] theorem fullReset_fltDelta (s : State) : (fullReset s).fltDelta = s.fltDelta := rfl
@[simp] theorem fullReset_fltSize (s : State) : (fullReset s).fltSize = s.fltSize := rfl
@[simp] theorem fullReset_queue (s : State) : (fullReset s).queue = [] := rfl
@[simp] theorem fullReset_filterEnd (s : State) : (fullReset s).filterEnd = 0 := rfl
@[simp] theorem fullReset_fb (s : State) : (fullReset s).fb = [] := rfl
@[simp] theorem fullReset_window (s : State) : (fullReset s).window = s.window := rfl
@[simp] theorem fullReset_freeCount (s : State) : (fullReset s).freeCount = s.freeCount := rfl

/-! `resetCall`. -/

@[simp] theorem resetCall_params (s : State) : (resetCall s).params = s.params := rfl
@[simp] theorem resetCall_phase (s : State) : (resetCall s).phase = s.phase := rfl
@[simp] theorem resetCall_ctrl (s : State) : (resetCall s).ctrl = s.ctrl := rfl
@[simp] theorem resetCall_port (s : State) : (resetCall s).port = s.port := rfl
@[simp] theorem resetCall_status (s : State) : (resetCall s).status = s.status := rfl
@[simp] theorem resetCall_src (s : State) : (resetCall s).src = s.src := rfl
@[simp] theorem resetCall_snk (s : State) : (resetCall s).snk = s.snk := rfl
@[simp] theorem resetCall_repDist (s : State) : (resetCall s).repDist = RepDist.reset := rfl
@[simp] theorem resetCall_lastLength (s : State) : (resetCall s).lastLength = 0 := rfl
@[simp] theorem resetCall_windowPos (s : State) : (resetCall s).windowPos = 0 := rfl
@[simp] theorem resetCall_lzSize (s : State) : (resetCall s).lzSize = 0 := rfl
@[simp] theorem resetCall_lzEnd (s : State) : (resetCall s).lzEnd = 0 := rfl
@[simp] theorem resetCall_lzWritten (s : State) : (resetCall s).lzWritten = 0 := rfl
@[simp] theorem resetCall_lzFileStart (s : State) : (resetCall s).lzFileStart = 0 := rfl
@[simp] theorem resetCall_limit (s : State) : (resetCall s).limit = s.limit := rfl
@[simp] theorem resetCall_windowSize (s : State) : (resetCall s).windowSize = 0 := rfl
@[simp] theorem resetCall_dictSizeForCheck (s : State) : (resetCall s).dictSizeForCheck = 0 := rfl
@[simp] theorem resetCall_pc (s : State) : (resetCall s).pc = 0 := rfl
@[simp] theorem resetCall_blockEnd (s : State) : (resetCall s).blockEnd = 0 := rfl
@[simp] theorem resetCall_blockEndBits7 (s : State) : (resetCall s).blockEndBits7 = 0 := rfl
@[simp] theorem resetCall_minorError (s : State) : (resetCall s).minorError = false := rfl
@[simp] theorem resetCall_isUnsupportedFilter (s : State) : (resetCall s).isUnsupportedFilter = false := rfl
@[simp] theorem resetCall_isLastBlock (s : State) : (resetCall s).isLastBlock = false := rfl
@[simp] theorem resetCall_useAlignBits (s : State) : (resetCall s).useAlignBits = false := rfl
@[simp] theorem resetCall_tablesFilled (s : State) : (resetCall s).tablesFilled = false := rfl
@[simp] theorem resetCall_wasFinished (s : State) : (resetCall s).wasFinished = false := rfl
@[simp] theorem resetCall_chainValid (s : State) : (resetCall s).chainValid = false := rfl
@[simp] theorem resetCall_props (s : State) : (resetCall s).props = s.props := rfl
@[simp] theorem resetCall_hdrFlags (s : State) : (resetCall s).hdrFlags = s.hdrFlags := rfl
@[simp] theorem resetCall_unpackedSize (s : State) : (resetCall s).unpackedSize = s.unpackedSize := rfl
@[simp] theorem resetCall_sizeDefined (s : State) : (resetCall s).sizeDefined = s.sizeDefined := rfl
@[simp] theorem resetCall_writtenFileSize (s : State) : (resetCall s).writtenFileSize = 0 := rfl
@[simp] theorem resetCall_huff (s : State) : (resetCall s).huff = HuffSet.reset s.params := rfl
@[simp] theorem resetCall_level (s : State) : (resetCall s).level = s.level := rfl
@[simp] theorem resetCall_lv (s : State) : (resetCall s).lv = s.lv := rfl
@[simp] theorem resetCall_tbl (s : State) : (resetCall s).tbl = s.tbl := rfl
@[simp] theorem resetCall_pendLen (s : State) : (resetCall s).pendLen = s.pendLen := rfl
@[simp] theorem resetCall_fltDelta (s : State) : (resetCall s).fltDelta = s.fltDelta := rfl
@[simp] theorem resetCall_fltSize (s : State) : (resetCall s).fltSize = s.fltSize := rfl
@[simp] theorem resetCall_queue (s : State) : (resetCall s).queue = [] := rfl
@[simp] theorem resetCall_filterEnd (s : State) : (resetCall s).filterEnd = 0 := rfl
@[simp] theorem resetCall_fb (s : State) : (resetCall s).fb = [] := rfl
@[simp] theorem resetCall_window (s : State) : (resetCall s).window = [] := rfl
@[simp] theorem resetCall_freeCount (s : State) : (resetCall s).freeCount = s.freeCount := rfl

/-! `freshWindow`. -/

@[simp] theorem freshWindow_params (ws : Nat) (s : State) : (freshWindow ws s).params = s.params := rfl
@[simp] theorem freshWindow_phase (ws : Nat) (s : State) : (freshWindow ws s).phase = s.phase := rfl
@[simp] theorem freshWindow_ctrl (ws : Nat) (s : State) : (freshWindow ws s).ctrl = s.ctrl := rfl
@[simp] theorem freshWindow_port (ws : Nat) (s : State) : (freshWindow ws s).port = s.port := rfl
@[simp] theorem freshWindow_status (ws : Nat) (s : State) : (freshWindow ws s).status = s.status := rfl
@[simp] theorem freshWindow_src (ws : Nat) (s : State) : (freshWindow ws s).src = s.src := rfl
@[simp] theorem freshWindow_snk (ws : Nat) (s : State) : (freshWindow ws s).snk = s.snk := rfl
@[simp] theorem freshWindow_repDist (ws : Nat) (s : State) : (freshWindow ws s).repDist = RepDist.reset := rfl
@[simp] theorem freshWindow_lastLength (ws : Nat) (s : State) : (freshWindow ws s).lastLength = 0 := rfl
@[simp] theorem freshWindow_windowPos (ws : Nat) (s : State) : (freshWindow ws s).windowPos = 0 := rfl
@[simp] theorem freshWindow_lzSize (ws : Nat) (s : State) : (freshWindow ws s).lzSize = 0 := rfl
@[simp] theorem freshWindow_lzEnd (ws : Nat) (s : State) : (freshWindow ws s).lzEnd = 0 := rfl
@[simp] theorem freshWindow_lzWritten (ws : Nat) (s : State) : (freshWindow ws s).lzWritten = 0 := rfl
@[simp] theorem freshWindow_lzFileStart (ws : Nat) (s : State) : (freshWindow ws s).lzFileStart = 0 := rfl
@[simp] theorem freshWindow_limit (ws : Nat) (s : State) : (freshWindow ws s).limit = s.limit := rfl
@[simp] theorem freshWindow_windowSize (ws : Nat) (s : State) : (freshWindow ws s).windowSize = ws := rfl
@[simp] theorem freshWindow_dictSizeForCheck (ws : Nat) (s : State) : (freshWindow ws s).dictSizeForCheck = s.dictSizeForCheck := rfl
@[simp] theorem freshWindow_pc (ws : Nat) (s : State) : (freshWindow ws s).pc = 0 := rfl
@[simp] theorem freshWindow_blockEnd (ws : Nat) (s : State) : (freshWindow ws s).blockEnd = 0 := rfl
@[simp] theorem freshWindow_blockEndBits7 (ws : Nat) (s : State) : (freshWindow ws s).blockEndBits7 = 0 := rfl
@[simp] theorem freshWindow_minorError (ws : Nat) (s : State) : (freshWindow ws s).minorError = false := rfl
@[simp] theorem freshWindow_isUnsupportedFilter (ws : Nat) (s : State) : (freshWindow ws s).isUnsupportedFilter = false := rfl
@[simp] theorem freshWindow_isLastBlock (ws : Nat) (s : State) : (freshWindow ws s).isLastBlock = false := rfl
@[simp] theorem freshWindow_useAlignBits (ws : Nat) (s : State) : (freshWindow ws s).useAlignBits = false := rfl
@[simp] theorem freshWindow_tablesFilled (ws : Nat) (s : State) : (freshWindow ws s).tablesFilled = false := rfl
@[simp] theorem freshWindow_wasFinished (ws : Nat) (s : State) : (freshWindow ws s).wasFinished = false := rfl
@[simp] theorem freshWindow_chainValid (ws : Nat) (s : State) : (freshWindow ws s).chainValid = s.chainValid := rfl
@[simp] theorem freshWindow_props (ws : Nat) (s : State) : (freshWindow ws s).props = s.props := rfl
@[simp] theorem freshWindow_hdrFlags (ws : Nat) (s : State) : (freshWindow ws s).hdrFlags = s.hdrFlags := rfl
@[simp] theorem freshWindow_unpackedSize (ws : Nat) (s : State) : (freshWindow ws s).unpackedSize = s.unpackedSize := rfl
@[simp] theorem freshWindow_sizeDefined (ws : Nat) (s : State) : (freshWindow ws s).sizeDefined = s.sizeDefined := rfl
@[simp] theorem freshWindow_writtenFileSize (ws : Nat) (s : State) : (freshWindow ws s).writtenFileSize = 0 := rfl
@[simp] theorem freshWindow_huff (ws : Nat) (s : State) : (freshWindow ws s).huff = HuffSet.reset s.params := rfl
@[simp] theorem freshWindow_level (ws : Nat) (s : State) : (freshWindow ws s).level = s.level := rfl
@[simp] theorem freshWindow_lv (ws : Nat) (s : State) : (freshWindow ws s).lv = s.lv := rfl
@[simp] theorem freshWindow_tbl (ws : Nat) (s : State) : (freshWindow ws s).tbl = s.tbl := rfl
@[simp] theorem freshWindow_pendLen (ws : Nat) (s : State) : (freshWindow ws s).pendLen = s.pendLen := rfl
@[simp] theorem freshWindow_fltDelta (ws : Nat) (s : State) : (freshWindow ws s).fltDelta = s.fltDelta := rfl
@[simp] theorem freshWindow_fltSize (ws : Nat) (s : State) : (freshWindow ws s).fltSize = s.fltSize := rfl
@[simp] theorem freshWindow_queue (ws : Nat) (s : State) : (freshWindow ws s).queue = [] := rfl
@[simp] theorem freshWindow_filterEnd (ws : Nat) (s : State) : (freshWindow ws s).filterEnd = 0 := rfl
@[simp] theorem freshWindow_fb (ws : Nat) (s : State) : (freshWindow ws s).fb = [] := rfl
@[simp] theorem freshWindow_window (ws : Nat) (s : State) : (freshWindow ws s).window = [] := rfl
@[simp] theorem freshWindow_freeCount (ws : Nat) (s : State) : (freshWindow ws s).freeCount = s.freeCount := rfl

/-! `startFile`. -/

@[simp] theorem startFile_params (s : State) : (startFile s).params = s.params := rfl
@[simp] theorem startFile_phase (s : State) : (startFile s).phase = .symbols := rfl
@[simp] theorem startFile_ctrl (s : State) : (startFile s).ctrl = s.ctrl := rfl
@[simp] theorem startFile_port (s : State) : (startFile s).port = s.port := rfl
@[simp] theorem startFile_status (s : State) : (startFile s).status = s.status := rfl
@[simp] theorem startFile_src (s : State) : (startFile s).src = s.src := rfl
@[simp] theorem startFile_snk (s : State) : (startFile s).snk = s.snk := rfl
@[simp] theorem startFile_repDist (s : State) : (startFile s).repDist = s.repDist := rfl
@[simp] theorem startFile_lastLength (s : State) : (startFile s).lastLength = s.lastLength := rfl
@[simp] theorem startFile_windowPos (s : State) : (startFile s).windowPos = s.windowPos := rfl
@[simp] theorem startFile_lzSize (s : State) : (startFile s).lzSize = s.lzSize := rfl
@[simp] theorem startFile_lzEnd (s : State) : (startFile s).lzEnd = (if s.sizeDefined then s.total + s.unpackedSize.toNat else s.total) := rfl
@[simp] theorem startFile_lzWritten (s : State) : (startFile s).lzWritten = s.total := rfl
@[simp] theorem startFile_lzFileStart (s : State) : (startFile s).lzFileStart = s.total := rfl
@[simp] theorem startFile_limit (s : State) : (startFile s).limit = min s.windowSize (s.windowPos + Config.writeStep) := rfl
@[simp] theorem startFile_windowSize (s : State) : (startFile s).windowSize = s.windowSize := rfl
@[simp] theorem startFile_dictSizeForCheck (s : State) : (startFile s).dictSizeForCheck = s.windowSize := rfl
@[simp] theorem startFile_pc (s : State) : (startFile s).pc = 0 := rfl
@[simp] theorem startFile_blockEnd (s : State) : (startFile s).blockEnd = 0 := rfl
@[simp] theorem startFile_blockEndBits7 (s : State) : (startFile s).blockEndBits7 = 0 := rfl
@[simp] theorem startFile_minorError (s : State) : (startFile s).minorError = false := rfl
@[simp] theorem startFile_isUnsupportedFilter (s : State) : (startFile s).isUnsupportedFilter = false := rfl
@[simp] theorem startFile_isLastBlock (s : State) : (startFile s).isLastBlock = false := rfl
@[simp] theorem startFile_useAlignBits (s : State) : (startFile s).useAlignBits = s.useAlignBits := rfl
@[simp] theorem startFile_tablesFilled (s : State) : (startFile s).tablesFilled = s.tablesFilled := rfl
@[simp] theorem startFile_wasFinished (s : State) : (startFile s).wasFinished = false := rfl
@[simp] theorem startFile_chainValid (s : State) : (startFile s).chainValid = s.chainValid := rfl
@[simp] theorem startFile_props (s : State) : (startFile s).props = s.props := rfl
@[simp] theorem startFile_hdrFlags (s : State) : (startFile s).hdrFlags = s.hdrFlags := rfl
@[simp] theorem startFile_unpackedSize (s : State) : (startFile s).unpackedSize = s.unpackedSize := rfl
@[simp] theorem startFile_sizeDefined (s : State) : (startFile s).sizeDefined = s.sizeDefined := rfl
@[simp] theorem startFile_writtenFileSize (s : State) : (startFile s).writtenFileSize = 0 := rfl
@[simp] theorem startFile_huff (s : State) : (startFile s).huff = s.huff := rfl
@[simp] theorem startFile_level (s : State) : (startFile s).level = s.level := rfl
@[simp] theorem startFile_lv (s : State) : (startFile s).lv = s.lv := rfl
@[simp] theorem startFile_tbl (s : State) : (startFile s).tbl = s.tbl := rfl
@[simp] theorem startFile_pendLen (s : State) : (startFile s).pendLen = s.pendLen := rfl
@[simp] theorem startFile_fltDelta (s : State) : (startFile s).fltDelta = s.fltDelta := rfl
@[simp] theorem startFile_fltSize (s : State) : (startFile s).fltSize = s.fltSize := rfl
@[simp] theorem startFile_queue (s : State) : (startFile s).queue = [] := rfl
@[simp] theorem startFile_filterEnd (s : State) : (startFile s).filterEnd = 0 := rfl
@[simp] theorem startFile_fb (s : State) : (startFile s).fb = [] := rfl
@[simp] theorem startFile_window (s : State) : (startFile s).window = s.window := rfl
@[simp] theorem startFile_freeCount (s : State) : (startFile s).freeCount = s.freeCount := rfl

/-! `rejectProps`. -/

@[simp] theorem rejectProps_params (s : State) : (rejectProps s).params = s.params := rfl
@[simp] theorem rejectProps_phase (s : State) : (rejectProps s).phase = .idle := rfl
@[simp] theorem rejectProps_ctrl (s : State) : (rejectProps s).ctrl = s.ctrl := rfl
@[simp] theorem rejectProps_port (s : State) : (rejectProps s).port = s.port := rfl
@[simp] theorem rejectProps_status (s : State) : (rejectProps s).status = s.status ++ [.error .corruptedData] := rfl
@[simp] theorem rejectProps_src (s : State) : (rejectProps s).src = s.src := rfl
@[simp] theorem rejectProps_snk (s : State) : (rejectProps s).snk = s.snk := rfl
@[simp] theorem rejectProps_repDist (s : State) : (rejectProps s).repDist = s.repDist := rfl
@[simp] theorem rejectProps_lastLength (s : State) : (rejectProps s).lastLength = s.lastLength := rfl
@[simp] theorem rejectProps_windowPos (s : State) : (rejectProps s).windowPos = s.windowPos := rfl
@[simp] theorem rejectProps_lzSize (s : State) : (rejectProps s).lzSize = s.lzSize := rfl
@[simp] theorem rejectProps_lzEnd (s : State) : (rejectProps s).lzEnd = s.lzEnd := rfl
@[simp] theorem rejectProps_lzWritten (s : State) : (rejectProps s).lzWritten = s.lzWritten := rfl
@[simp] theorem rejectProps_lzFileStart (s : State) : (rejectProps s).lzFileStart = s.lzFileStart := rfl
@[simp] theorem rejectProps_limit (s : State) : (rejectProps s).limit = s.limit := rfl
@[simp] theorem rejectProps_windowSize (s : State) : (rejectProps s).windowSize = s.windowSize := rfl
@[simp] theorem rejectProps_dictSizeForCheck (s : State) : (rejectProps s).dictSizeForCheck = s.dictSizeForCheck := rfl
@[simp] theorem rejectProps_pc (s : State) : (rejectProps s).pc = 0 := rfl
@[simp] theorem rejectProps_blockEnd (s : State) : (rejectProps s).blockEnd = s.blockEnd := rfl
@[simp] theorem rejectProps_blockEndBits7 (s : State) : (rejectProps s).blockEndBits7 = s.blockEndBits7 := rfl
@[simp] theorem rejectProps_minorError (s : State) : (rejectProps s).minorError = s.minorError := rfl
@[simp] theorem rejectProps_isUnsupportedFilter (s : State) : (rejectProps s).isUnsupportedFilter = s.isUnsupportedFilter := rfl
@[simp] theorem rejectProps_isLastBlock (s : State) : (rejectProps s).isLastBlock = s.isLastBlock := rfl
@[simp] theorem rejectProps_useAlignBits (s : State) : (rejectProps s).useAlignBits = s.useAlignBits := rfl
@[simp] theorem rejectProps_tablesFilled (s : State) : (rejectProps s).tablesFilled = s.tablesFilled := rfl
@[simp] theorem rejectProps_wasFinished (s : State) : (rejectProps s).wasFinished = s.wasFinished := rfl
@[simp] theorem rejectProps_chainValid (s : State) : (rejectProps s).chainValid = false := rfl
@[simp] theorem rejectProps_props (s : State) : (rejectProps s).props = s.props := rfl
@[simp] theorem rejectProps_hdrFlags (s : State) : (rejectProps s).hdrFlags = s.hdrFlags := rfl
@[simp] theorem rejectProps_unpackedSize (s : State) : (rejectProps s).unpackedSize = s.unpackedSize := rfl
@[simp] theorem rejectProps_sizeDefined (s : State) : (rejectProps s).sizeDefined = s.sizeDefined := rfl
@[simp] theorem rejectProps_writtenFileSize (s : State) : (rejectProps s).writtenFileSize = s.writtenFileSize := rfl
@[simp] theorem rejectProps_huff (s : State) : (rejectProps s).huff = s.huff := rfl
@[simp] theorem rejectProps_level (s : State) : (rejectProps s).level = s.level := rfl
@[simp] theorem rejectProps_lv (s : State) : (rejectProps s).lv = s.lv := rfl
@[simp] theorem rejectProps_tbl (s : State) : (rejectProps s).tbl = s.tbl := rfl
@[simp] theorem rejectProps_pendLen (s : State) : (rejectProps s).pendLen = s.pendLen := rfl
@[simp] theorem rejectProps_fltDelta (s : State) : (rejectProps s).fltDelta = s.fltDelta := rfl
@[simp] theorem rejectProps_fltSize (s : State) : (rejectProps s).fltSize = s.fltSize := rfl
@[simp] theorem rejectProps_queue (s : State) : (rejectProps s).queue = s.queue := rfl
@[simp] theorem rejectProps_filterEnd (s : State) : (rejectProps s).filterEnd = s.filterEnd := rfl
@[simp] theorem rejectProps_fb (s : State) : (rejectProps s).fb = s.fb := rfl
@[simp] theorem rejectProps_window (s : State) : (rejectProps s).window = s.window := rfl
@[simp] theorem rejectProps_freeCount (s : State) : (rejectProps s).freeCount = s.freeCount := rfl

/-! `commitHeader`. -/

@[simp] theorem commitHeader_params (w : Byte) (b : BitVec 3) (l : Bool) (n : Nat) (s : State) : (commitHeader w b l n s).params = s.params := rfl
@[simp] theorem commitHeader_phase (w : Byte) (b : BitVec 3) (l : Bool) (n : Nat) (s : State) : (commitHeader w b l n s).phase = s.phase := rfl
@[simp] theorem commitHeader_ctrl (w : Byte) (b : BitVec 3) (l : Bool) (n : Nat) (s : State) : (commitHeader w b l n s).ctrl = s.ctrl := rfl
@[simp] theorem commitHeader_port (w : Byte) (b : BitVec 3) (l : Bool) (n : Nat) (s : State) : (commitHeader w b l n s).port = s.port := rfl
@[simp] theorem commitHeader_status (w : Byte) (b : BitVec 3) (l : Bool) (n : Nat) (s : State) : (commitHeader w b l n s).status = s.status := rfl
@[simp] theorem commitHeader_src (w : Byte) (b : BitVec 3) (l : Bool) (n : Nat) (s : State) : (commitHeader w b l n s).src = s.src := rfl
@[simp] theorem commitHeader_snk (w : Byte) (b : BitVec 3) (l : Bool) (n : Nat) (s : State) : (commitHeader w b l n s).snk = s.snk := rfl
@[simp] theorem commitHeader_repDist (w : Byte) (b : BitVec 3) (l : Bool) (n : Nat) (s : State) : (commitHeader w b l n s).repDist = s.repDist := rfl
@[simp] theorem commitHeader_lastLength (w : Byte) (b : BitVec 3) (l : Bool) (n : Nat) (s : State) : (commitHeader w b l n s).lastLength = s.lastLength := rfl
@[simp] theorem commitHeader_windowPos (w : Byte) (b : BitVec 3) (l : Bool) (n : Nat) (s : State) : (commitHeader w b l n s).windowPos = s.windowPos := rfl
@[simp] theorem commitHeader_lzSize (w : Byte) (b : BitVec 3) (l : Bool) (n : Nat) (s : State) : (commitHeader w b l n s).lzSize = s.lzSize := rfl
@[simp] theorem commitHeader_lzEnd (w : Byte) (b : BitVec 3) (l : Bool) (n : Nat) (s : State) : (commitHeader w b l n s).lzEnd = s.lzEnd := rfl
@[simp] theorem commitHeader_lzWritten (w : Byte) (b : BitVec 3) (l : Bool) (n : Nat) (s : State) : (commitHeader w b l n s).lzWritten = s.lzWritten := rfl
@[simp] theorem commitHeader_lzFileStart (w : Byte) (b : BitVec 3) (l : Bool) (n : Nat) (s : State) : (commitHeader w b l n s).lzFileStart = s.lzFileStart := rfl
@[simp] theorem commitHeader_limit (w : Byte) (b : BitVec 3) (l : Bool) (n : Nat) (s : State) : (commitHeader w b l n s).limit = s.limit := rfl
@[simp] theorem commitHeader_windowSize (w : Byte) (b : BitVec 3) (l : Bool) (n : Nat) (s : State) : (commitHeader w b l n s).windowSize = s.windowSize := rfl
@[simp] theorem commitHeader_dictSizeForCheck (w : Byte) (b : BitVec 3) (l : Bool) (n : Nat) (s : State) : (commitHeader w b l n s).dictSizeForCheck = s.dictSizeForCheck := rfl
@[simp] theorem commitHeader_pc (w : Byte) (b : BitVec 3) (l : Bool) (n : Nat) (s : State) : (commitHeader w b l n s).pc = s.pc := rfl
@[simp] theorem commitHeader_blockEnd (w : Byte) (b : BitVec 3) (l : Bool) (n : Nat) (s : State) : (commitHeader w b l n s).blockEnd = s.byteOff + (if Operands.blockBytes n (b.toNat + 1) = 0 then 1 else Operands.blockBytes n (b.toNat + 1)) - s.params.blockEndBias := rfl
@[simp] theorem commitHeader_blockEndBits7 (w : Byte) (b : BitVec 3) (l : Bool) (n : Nat) (s : State) : (commitHeader w b l n s).blockEndBits7 = (b.toNat + 1) % 8 := rfl
@[simp] theorem commitHeader_minorError (w : Byte) (b : BitVec 3) (l : Bool) (n : Nat) (s : State) : (commitHeader w b l n s).minorError = (s.minorError || decide (Operands.blockBytes n (b.toNat + 1) = 0)) := rfl
@[simp] theorem commitHeader_isUnsupportedFilter (w : Byte) (b : BitVec 3) (l : Bool) (n : Nat) (s : State) : (commitHeader w b l n s).isUnsupportedFilter = s.isUnsupportedFilter := rfl
@[simp] theorem commitHeader_isLastBlock (w : Byte) (b : BitVec 3) (l : Bool) (n : Nat) (s : State) : (commitHeader w b l n s).isLastBlock = l := rfl
@[simp] theorem commitHeader_useAlignBits (w : Byte) (b : BitVec 3) (l : Bool) (n : Nat) (s : State) : (commitHeader w b l n s).useAlignBits = s.useAlignBits := rfl
@[simp] theorem commitHeader_tablesFilled (w : Byte) (b : BitVec 3) (l : Bool) (n : Nat) (s : State) : (commitHeader w b l n s).tablesFilled = s.tablesFilled := rfl
@[simp] theorem commitHeader_wasFinished (w : Byte) (b : BitVec 3) (l : Bool) (n : Nat) (s : State) : (commitHeader w b l n s).wasFinished = s.wasFinished := rfl
@[simp] theorem commitHeader_chainValid (w : Byte) (b : BitVec 3) (l : Bool) (n : Nat) (s : State) : (commitHeader w b l n s).chainValid = s.chainValid := rfl
@[simp] theorem commitHeader_props (w : Byte) (b : BitVec 3) (l : Bool) (n : Nat) (s : State) : (commitHeader w b l n s).props = s.props := rfl
@[simp] theorem commitHeader_hdrFlags (w : Byte) (b : BitVec 3) (l : Bool) (n : Nat) (s : State) : (commitHeader w b l n s).hdrFlags = w := rfl
@[simp] theorem commitHeader_unpackedSize (w : Byte) (b : BitVec 3) (l : Bool) (n : Nat) (s : State) : (commitHeader w b l n s).unpackedSize = s.unpackedSize := rfl
@[simp] theorem commitHeader_sizeDefined (w : Byte) (b : BitVec 3) (l : Bool) (n : Nat) (s : State) : (commitHeader w b l n s).sizeDefined = s.sizeDefined := rfl
@[simp] theorem commitHeader_writtenFileSize (w : Byte) (b : BitVec 3) (l : Bool) (n : Nat) (s : State) : (commitHeader w b l n s).writtenFileSize = s.writtenFileSize := rfl
@[simp] theorem commitHeader_huff (w : Byte) (b : BitVec 3) (l : Bool) (n : Nat) (s : State) : (commitHeader w b l n s).huff = s.huff := rfl
@[simp] theorem commitHeader_level (w : Byte) (b : BitVec 3) (l : Bool) (n : Nat) (s : State) : (commitHeader w b l n s).level = s.level := rfl
@[simp] theorem commitHeader_lv (w : Byte) (b : BitVec 3) (l : Bool) (n : Nat) (s : State) : (commitHeader w b l n s).lv = s.lv := rfl
@[simp] theorem commitHeader_tbl (w : Byte) (b : BitVec 3) (l : Bool) (n : Nat) (s : State) : (commitHeader w b l n s).tbl = s.tbl := rfl
@[simp] theorem commitHeader_pendLen (w : Byte) (b : BitVec 3) (l : Bool) (n : Nat) (s : State) : (commitHeader w b l n s).pendLen = s.pendLen := rfl
@[simp] theorem commitHeader_fltDelta (w : Byte) (b : BitVec 3) (l : Bool) (n : Nat) (s : State) : (commitHeader w b l n s).fltDelta = s.fltDelta := rfl
@[simp] theorem commitHeader_fltSize (w : Byte) (b : BitVec 3) (l : Bool) (n : Nat) (s : State) : (commitHeader w b l n s).fltSize = s.fltSize := rfl
@[simp] theorem commitHeader_queue (w : Byte) (b : BitVec 3) (l : Bool) (n : Nat) (s : State) : (commitHeader w b l n s).queue = s.queue := rfl
@[simp] theorem commitHeader_filterEnd (w : Byte) (b : BitVec 3) (l : Bool) (n : Nat) (s : State) : (commitHeader w b l n s).filterEnd = s.filterEnd := rfl
@[simp] theorem commitHeader_fb (w : Byte) (b : BitVec 3) (l : Bool) (n : Nat) (s : State) : (commitHeader w b l n s).fb = s.fb := rfl
@[simp] theorem commitHeader_window (w : Byte) (b : BitVec 3) (l : Bool) (n : Nat) (s : State) : (commitHeader w b l n s).window = s.window := rfl
@[simp] theorem commitHeader_freeCount (w : Byte) (b : BitVec 3) (l : Bool) (n : Nat) (s : State) : (commitHeader w b l n s).freeCount = s.freeCount := rfl

end Sys2Proof.Machine
end

