-- ==== Sys2Proof/Laws/Memory.lean ====
section
/-! SUPPORT. The laws of memory: a read after a write, and the canonical form, which every memory operation keeps. -/

namespace Sys2Proof.Machine

/-- A byte just written reads back. -/
@[simp] theorem Memory.read_write_same (m : Memory) (a : Nat) (b : Byte) : (m.write a b).read a = some b := by
  induction m with
  | nil => simp [Memory.write, Memory.read]
  | cons c m ih =>
    obtain ⟨x, d⟩ := c
    simp only [Memory.write]
    split
    · simp [Memory.read]
    · split
      · simp [Memory.read]
      · rename_i h1 h2
        simp [Memory.read, Ne.symm h2, ih]

/-- A write leaves every other address alone. -/
@[simp] theorem Memory.read_write_other (m : Memory) (a a' : Nat) (b : Byte) (h : a' ≠ a) :
    (m.write a b).read a' = m.read a' := by
  induction m with
  | nil => simp [Memory.write, Memory.read, Ne.symm h]
  | cons c m ih =>
    obtain ⟨x, d⟩ := c
    simp only [Memory.write]
    split
    · simp [Memory.read, Ne.symm h]
    · split
      · rename_i h1 h2
        subst h2
        simp [Memory.read, Ne.symm h]
      · simp [Memory.read, ih]

/-- What a write makes readable. -/
theorem Memory.read_write (m : Memory) (a a' : Nat) (b : Byte) :
    (m.write a b).read a' = if a' = a then some b else m.read a' := by
  split
  · subst_vars; simp
  · simp [*]

/-- The canonical form of a list that starts at `x`: the rest is canonical and starts later. -/
theorem Memory.wf_cons (x : Nat) (d : Byte) (m : Memory) :
    Memory.wf ((x, d) :: m) = true ↔ (∀ c ∈ m.head?, x < c.1) ∧ Memory.wf m = true := by
  cases m with
  | nil => simp [Memory.wf]
  | cons c m => obtain ⟨y, e⟩ := c; simp [Memory.wf]

/-- A write keeps the canonical form. -/
theorem Memory.wf_write (m : Memory) (a : Nat) (b : Byte) (h : m.wf = true) : (m.write a b).wf = true := by
  induction m with
  | nil => simp [Memory.write, Memory.wf]
  | cons c m ih =>
    obtain ⟨x, d⟩ := c
    have hm := (Memory.wf_cons x d m).1 h
    simp only [Memory.write]
    split
    · rename_i hlt
      exact (Memory.wf_cons ..).2 ⟨by simpa using hlt, h⟩
    · split
      · rename_i heq
        subst heq
        exact (Memory.wf_cons ..).2 ⟨hm.1, hm.2⟩
      · rename_i h1 h2
        refine (Memory.wf_cons ..).2 ⟨?_, ih hm.2⟩
        cases m with
        | nil => intro c hc; simp [Memory.write] at hc; subst hc; simp; omega
        | cons c m =>
          obtain ⟨y, e⟩ := c
          intro c hc
          have hxy : x < y := hm.1 (y, e) rfl
          simp only [Memory.write] at hc
          split at hc <;> [skip; split at hc] <;> simp at hc <;> subst hc <;> simp <;> omega

/-- The memory after reset is in the canonical form. -/
theorem Memory.wf_reset : State.reset.window.wf = true := rfl

/-- A window read answers the listed byte, or faults where none is listed. -/
theorem windowRead_ok {s : State} {i : Nat} {b : Byte} : windowRead s i = .ok b ↔ s.window.read i = some b := by
  unfold windowRead; split <;> simp_all

/-- A window read never raises an error. -/
theorem windowRead_raised {s : State} {i : Nat} {k : ErrorKind} {u : State} : windowRead s i ≠ .raised k u := by
  unfold windowRead; split <;> simp

/-- A window write that goes through: the index exists and the byte is stored. -/
theorem windowWrite_ok {s t : State} {i : Nat} {b : Byte} :
    windowWrite s i b = .ok t ↔ i < s.windowSize + Config.maxMatchLen ∧ t = { s with window := s.window.write i b } := by
  unfold windowWrite
  split
  · simp [*, eq_comm]
  · simp [*]

/-- A window write never raises an error. -/
theorem windowWrite_raised {s : State} {i : Nat} {b : Byte} {k : ErrorKind} {u : State} : windowWrite s i b ≠ .raised k u := by
  unfold windowWrite; split <;> simp

/-- An operation after another goes through exactly where both do. -/
theorem Flow.bind_ok {α β : Type} {x : Flow α} {f : α → Flow β} {b : β} :
    x.bind f = .ok b ↔ ∃ a, x = .ok a ∧ f a = .ok b := by
  cases x <;> simp [Flow.bind]

/-- An operation after another raises an error exactly where one of them does. -/
theorem Flow.bind_raised {α β : Type} {x : Flow α} {f : α → Flow β} {k : ErrorKind} {u : State} :
    x.bind f = .raised k u ↔ x = .raised k u ∨ ∃ a, x = .ok a ∧ f a = .raised k u := by
  cases x <;> simp [Flow.bind]

/-- An operation after another faults exactly where one of them does. -/
theorem Flow.bind_fault {α β : Type} {x : Flow α} {f : α → Flow β} {r : Fault} :
    x.bind f = .fault r ↔ x = .fault r ∨ ∃ a, x = .ok a ∧ f a = .fault r := by
  cases x <;> simp [Flow.bind]

/-- A range of window bytes: as many as asked for, each the one its index holds. -/
theorem windowRange_ok {s : State} {n i : Nat} {bs : List Byte} :
    windowRange s i n = .ok bs ↔ bs.length = n ∧ ∀ k, k < n → s.window.read (i + k) = bs[k]? := by
  induction n generalizing i bs with
  | zero => cases bs <;> simp [windowRange]
  | succ n ih =>
    simp only [windowRange, Flow.bind_ok, windowRead_ok, ih]
    constructor
    · rintro ⟨b, hb, cs, ⟨hl, hc⟩, h⟩
      cases h
      refine ⟨by simp [hl], fun k hk => ?_⟩
      cases k with
      | zero => simpa using hb
      | succ k =>
        have := hc k (by omega)
        rw [show i + (k + 1) = i + 1 + k by omega]
        simpa using this
    · rintro ⟨hl, hc⟩
      cases bs with
      | nil => simp at hl
      | cons b cs =>
        refine ⟨b, by simpa using hc 0 (by omega), cs, ⟨by simpa using hl, fun k hk => ?_⟩, rfl⟩
        have := hc (k + 1) (by omega)
        rw [show i + (k + 1) = i + 1 + k by omega] at this
        simpa using this

/-- Reading a range never raises an error. -/
theorem windowRange_raised {s : State} {n i : Nat} {k : ErrorKind} {u : State} : windowRange s i n ≠ .raised k u := by
  induction n generalizing i with
  | zero => simp [windowRange]
  | succ n ih => simp [windowRange, Flow.bind_raised, windowRead_raised, ih]

/-- A range whose bytes are all there is read. -/
theorem windowRange_total {s : State} {n i : Nat} (h : s.filled i (i + n)) : ∃ bs, windowRange s i n = .ok bs := by
  induction n generalizing i with
  | zero => exact ⟨[], rfl⟩
  | succ n ih =>
    obtain ⟨b, hb⟩ := Option.ne_none_iff_exists'.1 (h i (by omega) (Nat.le_refl i))
    obtain ⟨bs, hbs⟩ := ih (i := i + 1) fun j hj hi => h j (by omega) (by omega)
    exact ⟨b :: bs, by simp [windowRange, Flow.bind, windowRead_ok.2 hb, hbs]⟩

/-- What storing bytes at consecutive indices changes: the window, at those indices. -/
theorem windowStore_ok {i : Nat} {bs : List Byte} {s t : State} (h : windowStore i bs s = .ok t) :
    t = { s with window := t.window } ∧
    (∀ a, a < i ∨ i + bs.length ≤ a → t.window.read a = s.window.read a) ∧
    (∀ k, k < bs.length → t.window.read (i + k) = bs[k]?) ∧
    (s.window.wf = true → t.window.wf = true) := by
  induction bs generalizing i s with
  | nil => simp [windowStore] at h; subst h; simp
  | cons b bs ih =>
    simp only [windowStore, Flow.bind_ok, windowWrite_ok] at h
    obtain ⟨u, ⟨-, rfl⟩, h⟩ := h
    obtain ⟨ht, hf, hb, hw⟩ := ih h
    refine ⟨by rw [ht], fun a ha => ?_, fun k hk => ?_, fun hs => hw (Memory.wf_write _ _ _ hs)⟩
    · rw [hf a (by simp at ha; omega)]
      simp at ha
      exact Memory.read_write_other _ _ _ _ (by omega)
    · cases k with
      | zero => simpa using hf i (by omega)
      | succ k =>
        have := hb k (by simpa using hk)
        rw [show i + (k + 1) = i + 1 + k by omega]
        simpa using this

/-- Storing never raises an error. -/
theorem windowStore_raised {i : Nat} {bs : List Byte} {s : State} {k : ErrorKind} {u : State} : windowStore i bs s ≠ .raised k u := by
  induction bs generalizing i s with
  | nil => simp [windowStore]
  | cons b bs ih => simp [windowStore, Flow.bind_raised, windowWrite_raised, ih]

/-- Storing goes through where every index exists. -/
theorem windowStore_total {i : Nat} {bs : List Byte} {s : State} (h : i + bs.length ≤ s.windowSize + Config.maxMatchLen) :
    ∃ t, windowStore i bs s = .ok t := by
  induction bs generalizing i s with
  | nil => exact ⟨s, rfl⟩
  | cons b bs ih =>
    simp at h
    have h1 : windowWrite s i b = .ok { s with window := s.window.write i b } := windowWrite_ok.2 ⟨by omega, rfl⟩
    obtain ⟨t, ht⟩ := ih (i := i + 1) (s := { s with window := s.window.write i b }) (by simp; omega)
    exact ⟨t, by simp [windowStore, h1, Flow.bind, ht]⟩

/-- What producing a byte at the cursor changes. -/
theorem putByte_ok {b : Byte} {s t : State} :
    putByte b s = .ok t ↔ s.windowPos < s.windowSize + Config.maxMatchLen ∧
      t = { s with window := s.window.write s.windowPos b, windowPos := s.windowPos + 1 } := by
  simp only [putByte, Flow.bind_ok, windowWrite_ok]
  constructor
  · rintro ⟨u, ⟨h, rfl⟩, h'⟩; cases h'; exact ⟨h, rfl⟩
  · rintro ⟨h, rfl⟩; exact ⟨_, ⟨h, rfl⟩, rfl⟩

/-- Producing a byte never raises an error. -/
theorem putByte_raised {b : Byte} {s : State} {k : ErrorKind} {u : State} : putByte b s ≠ .raised k u := by
  simp [putByte, Flow.bind_raised, windowWrite_raised]

end Sys2Proof.Machine
end

