-- ==== Sys2Proof/Laws/Ops.lean ====
section
/-! SUPPORT. What each shared operation can do, said once: what it changes when it goes through or raises, and when it does so. -/

namespace Sys2Proof.Machine

/-! Input. -/

/-- What a `prepare` that goes through changes: `wasFinished`, which it never clears. -/
theorem prepare_ok {s t : State} (h : prepare s = .ok t) :
    s.sourceFails = false ∧ t = { s with wasFinished := t.wasFinished } ∧ (s.wasFinished = true → t.wasFinished = true) := by
  unfold prepare at h
  split at h
  · simp at h
  · rename_i hf
    cases h
    simp_all

/-- A `prepare` that raises: the source fails, the kind is `Io` and nothing has changed. -/
theorem prepare_raised {s u : State} {k : ErrorKind} :
    prepare s = .raised k u ↔ s.sourceFails = true ∧ k = .io ∧ u = s := by
  unfold prepare
  split
  · rename_i h
    simp only [h, Flow.raised.injEq, true_and]
    exact ⟨fun ⟨a, b⟩ => ⟨a.symm, b.symm⟩, fun ⟨a, b⟩ => ⟨a.symm, b.symm⟩⟩
  · rename_i h
    simp [h]

/-- A `prepare` never faults. -/
theorem prepare_fault {s : State} {r : Fault} : prepare s ≠ .fault r := by unfold prepare; split <;> simp

/-- What aligning changes: `pc` and `minorError`. -/
theorem alignToByte_frame (s : State) :
    alignToByte s = { s with pc := (alignToByte s).pc, minorError := (alignToByte s).minorError } := by
  unfold alignToByte; split <;> rfl

/-! The sink. -/

/-- A push changes the sink and nothing else; a failing push raises `Io`. -/
theorem sinkPush_cases (bs : List Byte) (s : State) :
    (∃ k, sinkPush bs s = .ok { s with snk := k } ∧ k.bytes = s.snk.bytes ++ bs ∧ k.ioAt = s.snk.ioAt) ∨
    (∃ k n, sinkPush bs s = .raised .io { s with snk := k } ∧ s.snk.ioAt = some n ∧ k.ioAt = some n ∧
      n < s.snk.bytes.length + bs.length ∧ bs ≠ [] ∧ k.bytes = s.snk.bytes ++ bs.take (n - s.snk.bytes.length)) := by
  unfold sinkPush
  split
  · exact .inl ⟨_, rfl, rfl, rfl⟩
  · rename_i n hn
    split
    · exact .inl ⟨_, rfl, rfl, rfl⟩
    · rename_i hc
      simp only [not_or, Nat.not_le] at hc
      exact .inr ⟨_, n, rfl, hn, hn, hc.1, hc.2, rfl⟩

/-- A write changes the sink and, when it goes through, counts every byte (R301). -/
theorem sinkWrite_cases (bs : List Byte) (s : State) :
    (∃ k, sinkWrite bs s = .ok { s with snk := k, writtenFileSize := s.writtenFileSize + bs.length } ∧
      k.bytes = s.snk.bytes ++ bs.take (s.clamp bs.length) ∧ k.ioAt = s.snk.ioAt) ∨
    (∃ k, sinkWrite bs s = .raised .io { s with snk := k }) := by
  rcases sinkPush_cases (bs.take (s.clamp bs.length)) s with ⟨k, h, hb, hi⟩ | ⟨k, n, h, -⟩
  · exact .inl ⟨k, by simp [sinkWrite, h, Flow.bind], hb, hi⟩
  · exact .inr ⟨k, by simp [sinkWrite, h, Flow.bind]⟩

/-! The flush. -/

/-- Two states that agree on all a flush may not change. -/
theorem onlyFlushed_refl (s : State) : onlyFlushed s s := rfl

/-- A flush after a flush changes no more than a flush. -/
theorem onlyFlushed_trans {s t u : State} (h : onlyFlushed s t) (h' : onlyFlushed t u) : onlyFlushed s u := by
  unfold onlyFlushed at *
  rw [h'] at *
  rw [h]

/-- An operation's end in a state that differs from `s` only as a flush may make it differ. -/
def staysFlushed (s : State) (x : Flow State) : Prop :=
  match x with
  | .ok t => onlyFlushed s t
  | .raised _ t => onlyFlushed s t
  | .fault _ => True

/-- One such operation after another is one. -/
theorem staysFlushed_bind {s : State} {x : Flow State} {f : State → Flow State} (hx : staysFlushed s x)
    (hf : ∀ t, x = .ok t → staysFlushed t (f t)) : staysFlushed s (x.bind f) := by
  cases x with
  | ok t =>
    have h2 := hf t rfl
    simp only [Flow.bind]
    revert h2
    cases f t <;> simp only [staysFlushed] <;> intro h2
    · exact onlyFlushed_trans hx h2
    · exact onlyFlushed_trans hx h2
    · trivial
  | raised k t => exact hx
  | fault r => trivial

/-- A sink write stays within what a flush may change. -/
theorem sinkWrite_frame (bs : List Byte) (s : State) : staysFlushed s (sinkWrite bs s) := by
  rcases sinkWrite_cases bs s with ⟨k, h, -⟩ | ⟨k, h⟩ <;> rw [h] <;> rfl

/-- Emitting plain bytes stays within what a flush may change. -/
theorem emitPlain_frame (e : Nat) (s : State) : staysFlushed s (emitPlain e s) := by
  unfold emitPlain
  cases hw : winBytes s e with
  | ok bs =>
    simp only [Flow.bind]
    exact staysFlushed_bind (sinkWrite_frame bs s) fun t _ => rfl
  | raised k u => exact absurd hw windowRange_raised
  | fault r => trivial

/-- Collecting stays within what a flush may change. -/
theorem collect_frame (e : Nat) (s : State) : staysFlushed s (collect e s) := by
  unfold collect
  cases hw : winBytes s e with
  | ok bs => rfl
  | raised k u => exact absurd hw windowRange_raised
  | fault r => trivial

/-- Running a filter stays within what a flush may change. -/
theorem runFilter_frame (f : FilterEntry) (rest : List FilterEntry) (s : State) : staysFlushed s (runFilter f rest s) := by
  unfold runFilter
  rcases sinkWrite_cases (applyFilter s.params f (f.startPos - s.lzFileStart) s.fb)
    { s with queue := rest, fb := [], isUnsupportedFilter := s.isUnsupportedFilter || !(Operands.filterKnown s.params f.type.toNat) } with
    ⟨k, h, -⟩ | ⟨k, h⟩ <;> rw [h] <;> rfl

/-- The flush changes only what it may change, whether it goes through or raises (R302, R90). -/
theorem flushQueue_frame (total : Nat) (q : List FilterEntry) (s : State) : staysFlushed s (flushQueue total q s) := by
  induction q generalizing s with
  | nil =>
    unfold flushQueue
    split
    · exact emitPlain_frame total s
    · exact onlyFlushed_refl s
  | cons f rest ih =>
    unfold flushQueue
    split
    · exact onlyFlushed_refl s
    · refine staysFlushed_bind ?_ fun t _ => ?_
      · split
        · exact emitPlain_frame _ s
        · exact onlyFlushed_refl s
      · split
        · exact onlyFlushed_refl t
        · refine staysFlushed_bind (collect_frame _ t) fun u _ => ?_
          split
          · exact staysFlushed_bind (runFilter_frame f rest u) fun v _ => ih v
          · exact onlyFlushed_refl u

/-- A flush that goes through changes only what it may change. -/
theorem flush_ok {s t : State} (h : flush s = .ok t) : onlyFlushed s t := by
  have := flushQueue_frame s.total s.queue s
  unfold flush at h
  rw [h] at this
  exact this

/-- A flush that the sink stops changes only what it may change. -/
theorem flush_raised {s t : State} {k : ErrorKind} (h : flush s = .raised k t) : onlyFlushed s t := by
  have := flushQueue_frame s.total s.queue s
  unfold flush at h
  rw [h] at this
  exact this

/-- A flush, however it ends, changes only what it may change. -/
theorem flushedTo_frame {s u : State} (h : flushedTo s u) : onlyFlushed s u := by
  rcases h with h | ⟨k, h⟩
  · exact flush_ok h
  · exact flush_raised h

/-- The window bytes that a flush from LZ coordinate `L` or later on moves are there. -/
theorem winBytes_total {s : State} {L e} (hl : s.lzSize ≤ L) (hL : L ≤ s.lzWritten)
    (hf : s.filled (L - s.lzSize) s.windowPos) (he : e ≤ s.total) : ∃ bs, winBytes s e = .ok bs := by
  apply windowRange_total
  unfold State.total at he
  exact fun i h1 h2 => hf i (by omega) (by omega)

/-- Emitting plain bytes goes through or raises `Io`. -/
theorem emitPlain_total {s : State} {L e} (hl : s.lzSize ≤ L) (hL : L ≤ s.lzWritten)
    (hf : s.filled (L - s.lzSize) s.windowPos) (he : e ≤ s.total) :
    (∃ k, emitPlain e s = .ok k ∧ onlyFlushed s k ∧ k.lzWritten = e ∧ k.queue = s.queue) ∨ ∃ k, emitPlain e s = .raised .io k := by
  obtain ⟨bs, hb⟩ := winBytes_total hl hL hf he
  unfold emitPlain
  rw [hb]
  simp only [Flow.bind]
  rcases sinkWrite_cases bs s with ⟨k, h, -⟩ | ⟨k, h⟩ <;> rw [h]
  · exact .inl ⟨_, rfl, rfl, rfl, rfl⟩
  · exact .inr ⟨_, rfl⟩

/-- The flush's loop never faults where the bytes from LZ coordinate `L` on are there and no region ends before `L`. -/
theorem flushQueue_total (L total : Nat) (q : List FilterEntry) (s : State) (ht : total = s.total)
    (hl : s.lzSize ≤ L) (hL : L ≤ s.lzWritten)
    (hf : s.filled (L - s.lzSize) s.windowPos) (hq : ∀ f ∈ q, L ≤ f.startPos + f.size) :
    (∃ u, flushQueue total q s = .ok u) ∨ ∃ k u, flushQueue total q s = .raised k u := by
  induction q generalizing s with
  | nil =>
    unfold flushQueue
    split
    · rcases emitPlain_total hl hL hf (e := total) (by omega) with ⟨k, h, -⟩ | ⟨k, h⟩ <;> rw [h]
      · exact .inl ⟨_, rfl⟩
      · exact .inr ⟨_, _, rfl⟩
    · exact .inl ⟨_, rfl⟩
  | cons f rest ih =>
    unfold flushQueue
    split
    · exact .inl ⟨_, rfl⟩
    · rename_i hlt
      have step2 : ∀ s1 : State, onlyFlushed s s1 → L ≤ s1.lzWritten → True →
         (∃ u, (if total ≤ s1.lzWritten then Flow.ok s1
        else
          (collect (min total (f.startPos + f.size)) s1).bind fun s =>
            if s.fb.length = f.size then (runFilter f rest s).bind (flushQueue total rest) else .ok s) = .ok u) ∨
         (∃ k u, (if total ≤ s1.lzWritten then Flow.ok s1
        else
          (collect (min total (f.startPos + f.size)) s1).bind fun s =>
            if s.fb.length = f.size then (runFilter f rest s).bind (flushQueue total rest) else .ok s) = .raised k u) := by
        intro s1 h1 h1L _
        split
        · exact .inl ⟨_, rfl⟩
        · have e1 : s1.lzSize = s.lzSize := by rw [h1]
          have e2 : s1.windowPos = s.windowPos := by rw [h1]
          have e3 : s1.window = s.window := by rw [h1]
          have e4 : s1.total = s.total := by simp [State.total, e1, e2]
          have hf1 : s1.filled (L - s1.lzSize) s1.windowPos := by
            rw [e1, e2]; intro i h h'; rw [e3]; exact hf i h h'
          obtain ⟨bs, hb⟩ := winBytes_total (e := min total (f.startPos + f.size)) (by rw [e1]; exact hl) h1L hf1 (by omega)
          unfold collect
          rw [hb]
          simp only [Flow.bind]
          split
          · unfold runFilter
            rcases sinkWrite_cases (applyFilter s1.params f (f.startPos - s1.lzFileStart) (s1.fb ++ bs))
              { s1 with fb := [], lzWritten := min total (f.startPos + f.size), queue := rest, isUnsupportedFilter := s1.isUnsupportedFilter || !(Operands.filterKnown s1.params f.type.toNat) } with ⟨k, h, -⟩ | ⟨k, h⟩
            · have hfe := hq f (by simp)
              simp only [h]
              have := ih { s1 with fb := [], lzWritten := min total (f.startPos + f.size), queue := rest, isUnsupportedFilter := s1.isUnsupportedFilter || !(Operands.filterKnown s1.params f.type.toNat), snk := k, writtenFileSize := s1.writtenFileSize + (applyFilter s1.params f (f.startPos - s1.lzFileStart) (s1.fb ++ bs)).length } (by rw [ht]; exact e4.symm) (by simp [e1, hl]) (by simp; omega) hf1 (fun g hg => hq g (by simp [hg]))
              exact this
            · simp only [h]; exact .inr ⟨_, _, rfl⟩
          · exact .inl ⟨_, rfl⟩
      split
      · rename_i hs
        rcases emitPlain_total hl hL hf (e := min total f.startPos) (by omega) with ⟨k, h, hk, hw, -⟩ | ⟨k, h⟩ <;> rw [h]
        · simp only [Flow.bind]
          exact step2 k hk (by rw [hw]; omega) trivial
        · exact .inr ⟨_, _, rfl⟩
      · simp only [Flow.bind]
        exact step2 s rfl hL trivial

/-- A flush that finds its bytes goes through or is stopped by the sink. -/
theorem flush_total {s : State} (h : s.flushable) : ∃ u, flushedTo s u := by
  by_cases hT : s.lzWritten ≤ s.total
  · rcases flushQueue_total s.lzWritten s.total s.queue s rfl h.lap (Nat.le_refl _) h.bytes h.regions with ⟨u, h⟩ | ⟨k, u, h⟩
    · exact ⟨u, .inl h⟩
    · exact ⟨u, .inr ⟨k, h⟩⟩
  · refine ⟨s, .inl ?_⟩
    unfold flush
    cases s.queue with
    | nil => simp [flushQueue]; omega
    | cons f r => simp [flushQueue]; omega

/-! Taking an error. -/

/-- What taking an error can do: it ends in the state R340 and R344 describe, or the flush meets a fault of the model. -/
theorem takeError_cases (k : ErrorKind) (s : State) :
    (∃ t, takeError k s = .next t ∧ failedWith k s t) ∨ (∃ r, takeError k s = .fault r ∧ flush s = .fault r) := by
  unfold takeError
  have key : ∀ u, flushedTo s u → failedWith k s (endDecode (.error k) u) := by
    intro u hu
    have hf := flushedTo_frame hu
    refine ⟨u, hu, hf, ?_⟩
    have hs : u.status = s.status := by rw [hf]
    simp [endDecode, hs]
  cases h : flush s with
  | ok u => exact .inl ⟨_, rfl, key u (.inl h)⟩
  | raised j u => exact .inl ⟨_, rfl, key u (.inr ⟨j, h⟩)⟩
  | fault r => exact .inr ⟨r, rfl, rfl⟩

/-- An operation that raises takes the error in the state it raises it in. -/
theorem Flow.outcome_raised {x : Flow State} {k : ErrorKind} {u : State} (h : x = .raised k u) :
    x.outcome = takeError k u := by rw [h]; rfl

/-- An operation that goes through is the next state. -/
theorem Flow.outcome_ok {x : Flow State} {t : State} (h : x = .ok t) : x.outcome = .next t := by rw [h]; rfl

/-! A flush that the sink stops. -/

/-- Emitting plain bytes raises only what the sink raises, before anything but the sink has changed. -/
theorem emitPlain_raised {e : Nat} {s u : State} {k : ErrorKind} (h : emitPlain e s = .raised k u) :
    k = .io ∧ u.queue = s.queue ∧ u.lzWritten = s.lzWritten := by
  simp only [emitPlain, Flow.bind_raised] at h
  rcases h with h | ⟨bs, -, h | ⟨a, -, h⟩⟩
  · exact absurd h windowRange_raised
  · rcases sinkWrite_cases bs s with ⟨_, h', -⟩ | ⟨_, h'⟩ <;> rw [h'] at h <;> cases h
    exact ⟨rfl, rfl, rfl⟩
  · cases h

/-- The loop of the flush raises only `Io`, and leaves the pending regions in order behind what has been moved. -/
theorem flushQueue_raised {total : Nat} {q : List FilterEntry} {s u : State} {k : ErrorKind} (hq : s.queue = q)
    (ho : q.Pairwise fun f g => f.startPos + f.size ≤ g.startPos) (hr : ∀ f ∈ q, s.lzWritten ≤ f.startPos + f.size)
    (h : flushQueue total q s = .raised k u) :
    k = .io ∧ s.lzWritten ≤ u.lzWritten ∧ ∀ f ∈ u.queue, u.lzWritten ≤ f.startPos + f.size := by
  induction q generalizing s with
  | nil =>
    unfold flushQueue at h
    split at h
    · obtain ⟨h1, h2, h3⟩ := emitPlain_raised h
      simp [h1, h2, h3, hq]
    · cases h
  | cons f rest ih =>
    obtain ⟨hof, hor⟩ := List.pairwise_cons.1 ho
    have hf := hr f (by simp)
    unfold flushQueue at h
    split at h
    · cases h
    · rename_i hlt
      rcases Flow.bind_raised.1 h with h | ⟨s1, h1, h⟩
      · split at h
        · obtain ⟨h1, h2, h3⟩ := emitPlain_raised h
          rw [h1, h2, h3, hq]
          exact ⟨rfl, Nat.le_refl _, hr⟩
        · cases h
      · have h1' : s.lzWritten ≤ s1.lzWritten ∧ s1.lzWritten ≤ f.startPos + f.size := by
          split at h1
          · simp only [emitPlain, Flow.bind_ok] at h1
            obtain ⟨_, -, _, -, h1⟩ := h1
            cases h1
            constructor <;> simp only <;> omega
          · cases h1; exact ⟨Nat.le_refl _, hf⟩
        split at h
        · cases h
        · rcases Flow.bind_raised.1 h with h | ⟨s2, h2, h⟩
          · simp only [collect, Flow.bind_raised, reduceCtorEq, and_false, exists_false, or_false] at h
            exact absurd h windowRange_raised
          · simp only [collect, Flow.bind_ok] at h2
            obtain ⟨_, -, h2⟩ := h2
            cases h2
            have hrest : ∀ g ∈ rest, min total (f.startPos + f.size) ≤ g.startPos + g.size := fun g hg => by
              have := hof g hg
              omega
            split at h
            · simp only [runFilter, Flow.bind_raised] at h
              rcases sinkWrite_cases _ _ with ⟨_, h', -⟩ | ⟨_, h'⟩ <;> rw [h'] at h
              · simp only [reduceCtorEq, Flow.ok.injEq, false_or, exists_eq_left'] at h
                obtain ⟨h1, h2, h3⟩ := ih rfl hor hrest h
                exact ⟨h1, by simp only at h2; omega, h3⟩
              · simp only [reduceCtorEq, false_and, exists_false, or_false] at h
                cases h
                exact ⟨rfl, by simp only; omega, hrest⟩
            · cases h

/-- A flush that the sink stops raises `Io`, in a state that can be flushed again. -/
theorem flush_stopped {s u : State} {k : ErrorKind} (hq : queueOk s) (hf : s.flushable) (h : flush s = .raised k u) :
    k = .io ∧ u.flushable := by
  obtain ⟨hk, hle, hr⟩ := flushQueue_raised rfl hq.ordered hf.regions h
  have hu := flush_raised h
  have e1 : u.lzSize = s.lzSize := by rw [hu]
  have e2 : u.windowPos = s.windowPos := by rw [hu]
  have e3 : u.window = s.window := by rw [hu]
  have hl := hf.lap
  refine ⟨hk, by omega, hr, fun i hi hi' => ?_⟩
  rw [e3]
  exact hf.bytes i (by omega) (by omega)

/-! The wrap. -/

/-- What a wrap changes (R303): the window's start, `lzSize` and `windowPos`, and never the next LZ coordinate. -/
theorem wrap_ok {s t : State} (h : wrap s = .ok t) :
    t = { s with window := t.window, lzSize := t.lzSize, windowPos := t.windowPos } ∧ t.total = s.total ∧
    (s.window.wf = true → t.window.wf = true) := by
  unfold wrap at h
  split at h
  · cases h; simp
  · rename_i hlt
    simp only [Flow.bind_ok] at h
    obtain ⟨bs, -, u, hu, h⟩ := h
    obtain ⟨hf, -, -, hw⟩ := windowStore_ok hu
    cases h
    refine ⟨by rw [hf], ?_, hw⟩
    have h1 : u.lzSize = s.lzSize := by rw [hf]
    have h2 : u.windowPos = s.windowPos := by rw [hf]
    have h3 : u.windowSize = s.windowSize := by rw [hf]
    simp only [State.total, h1, h2, h3]
    omega

/-- A wrap never raises an error. -/
theorem wrap_raised {s u : State} {k : ErrorKind} : wrap s ≠ .raised k u := by
  unfold wrap
  split <;> simp [Flow.bind_raised, windowRange_raised, windowStore_raised]

/-! The match copy. -/

/-- What a copy that goes through changes: the window from the cursor on, and the cursor. -/
theorem copyBytes_ok {dist n : Nat} {s t : State} (h : copyBytes dist n s = .ok t) :
    t = { s with window := t.window, windowPos := s.windowPos + n } ∧
    (∀ a, a < s.windowPos ∨ s.windowPos + n ≤ a → t.window.read a = s.window.read a) ∧
    (s.window.wf = true → t.window.wf = true) := by
  induction n generalizing s with
  | zero => simp [copyBytes] at h; subst h; simp
  | succ n ih =>
    simp only [copyBytes, Flow.bind_ok, putByte_ok] at h
    obtain ⟨b, -, u, ⟨-, rfl⟩, h⟩ := h
    obtain ⟨ht, hf, hw⟩ := ih h
    refine ⟨by rw [ht]; simp; omega, fun a ha => ?_, fun hs => hw (Memory.wf_write _ _ _ hs)⟩
    rw [hf a (by simp; omega)]
    exact Memory.read_write_other _ _ _ _ (by omega)

/-- A copy never raises an error. -/
theorem copyBytes_raised {dist n : Nat} {s u : State} {k : ErrorKind} : copyBytes dist n s ≠ .raised k u := by
  induction n generalizing s with
  | zero => simp [copyBytes]
  | succ n ih => simp [copyBytes, Flow.bind_raised, windowRead_raised, putByte_raised, ih]

/-- A match either fails the checks of R238, with nothing changed, or is the copy. -/
theorem copyMatch_cases (dist len : Nat) (s : State) :
    (s.badDistance dist = true ∧ copyMatch dist len s = .raised .corruptedData s) ∨
    (s.badDistance dist = false ∧ copyMatch dist len s = copyBytes dist len s) := by
  unfold copyMatch
  cases s.badDistance dist <;> simp

/-- A copy whose source bytes are there and that has room goes through, and the window holds its result. -/
theorem copyBytes_total {dist n : Nat} {s : State} (h1 : 1 ≤ dist) (h2 : dist ≤ s.windowSize) (h3 : s.lzSize = 0 → dist ≤ s.windowPos)
    (hf : s.windowFilled) (hr : s.windowPos + n ≤ s.windowSize + Config.maxMatchLen) :
    ∃ t, copyBytes dist n s = .ok t ∧ t = { s with window := t.window, windowPos := s.windowPos + n } ∧ copied dist n s t := by
  induction n generalizing s with
  | zero => exact ⟨s, rfl, rfl, ⟨fun a _ => rfl, fun p h h' => by omega⟩⟩
  | succ n ih =>
    have hb : ∃ b, s.window.read (s.copySource dist) = some b := by
      apply Option.ne_none_iff_exists'.1
      unfold State.copySource
      split
      · exact hf.1 _ (by omega) (by omega)
      · exact hf.2 (by intro h; have := h3 h; omega) _ (by omega) (by omega)
    obtain ⟨b, hb⟩ := hb
    let u : State := { s with window := s.window.write s.windowPos b, windowPos := s.windowPos + 1 }
    have hu : putByte b s = .ok u := putByte_ok.2 ⟨by omega, rfl⟩
    have hfu : u.windowFilled := by
      constructor
      · intro i hi _
        simp only [u, Memory.read_write] at *
        split
        · simp
        · exact hf.1 i (by omega) (by omega)
      · intro hz i hi h0
        simp only [u, Memory.read_write] at *
        split
        · simp
        · exact hf.2 hz i hi h0
    obtain ⟨t, ht, hte, hc⟩ := ih (s := u) h2 (by intro h; have := h3 h; simp [u]; omega) hfu (by simp only [u]; omega)
    refine ⟨t, ?_, ?_, ?_, ?_⟩
    · simp only [copyBytes, windowRead_ok.2 hb, Flow.bind, hu, ht]
    · rw [hte]; simp [u]; omega
    · intro a ha
      rw [hc.1 a (by simp [u]; omega)]
      simp only [u]
      exact Memory.read_write_other _ _ _ _ (by omega)
    · intro p hp hp'
      by_cases hpe : p = s.windowPos
      · subst hpe
        rw [hc.1 _ (by simp [u])]
        simp only [u, Memory.read_write_same]
        unfold State.copySource at hb
        split at hb
        · rename_i hd
          rw [if_pos hd, hc.1 _ (by simp only [u]; omega)]
          simp only [u]
          rw [Memory.read_write_other _ _ _ _ (by omega), hb]
        · rename_i hd
          rw [if_neg hd, hb]
      · have h := hc.2 p (by simp [u]; omega) (by simp [u]; omega)
        rw [h]
        split
        · rfl
        · simp only [u]
          exact Memory.read_write_other _ _ _ _ (by omega)

/-! Decoding. -/

/-- The fields after a table value are read alike whatever the format and the code of the symbol. -/
theorem readFields_sym (f f' : Format) (H H' : Huff) (al : Option Huff) (P : Config.Params)
    (fs : List Operands.Field) (bits : List Bool) :
    readFields { fmt := f, sym := H, align := al, params := P } fs bits =
      readFields { fmt := f', sym := H', align := al, params := P } fs bits := by
  induction fs generalizing bits with
  | nil => rfl
  | cons x xs ih =>
    have : readField { fmt := f, sym := H, align := al, params := P } x bits =
        readField { fmt := f', sym := H', align := al, params := P } x bits := by cases x <;> rfl
    simp only [readFields, this, ih]

/-- A raw field is decoded alike whatever code the context holds for symbols (R132). -/
theorem decode_sym (f : Format) (hf : f.isSymbol = false) (H H' : Huff) (al : Option Huff) (P : Config.Params)
    (bits : List Bool) :
    decode { fmt := f, sym := H, align := al, params := P } bits =
      decode { fmt := f, sym := H', align := al, params := P } bits := by
  have hr := readFields_sym f f H H' al P
  cases f <;> simp only [Format.isSymbol, Bool.true_eq_false] at hf <;>
    simp only [decode, readValue, decodeRow, hr]

/-! The parameters (R12). -/

/-- On a machine's parameters the type codes are the eight values of the field, each once (R117). -/
theorem typeCodes_perm {P : Config.Params} (h : P.wf = true) : (Operands.typeCodes P).Perm (List.range 8) := by
  simp only [Config.Params.wf, Bool.and_eq_true, decide_eq_true_eq, List.all_eq_true] at h
  obtain ⟨⟨-, hd⟩, hlt⟩ := h
  have hn : [P.typeDelta, P.typeE8, P.typeE8E9, P.typeArm].Perm
      ((List.range 8).filter fun c => [P.typeDelta, P.typeE8, P.typeE8E9, P.typeArm].contains c) := by
    refine (List.perm_ext_iff_of_nodup hd (List.nodup_range.filter _)).2 fun c => ?_
    rw [List.mem_filter, List.mem_range, List.contains_iff_mem]
    exact ⟨fun hc => ⟨hlt c hc, hc⟩, fun hc => hc.2⟩
  exact (hn.append_right _).trans (List.filter_append_perm _ _)

/-- A row's code is a value of the 3-bit field, and a code's row one of the eight. -/
theorem typeCodes_lt {P : Config.Params} (h : P.wf = true) {n : Nat} (hn : n < 8) :
    Operands.rowCode P n < 8 ∧ Operands.codeRow P n < 8 := by
  have hp := typeCodes_perm h
  have hl : (Operands.typeCodes P).length = 8 := by simpa using hp.length_eq
  constructor
  · rw [Operands.rowCode, List.getD_eq_getElem _ _ (by omega : n < (Operands.typeCodes P).length)]
    exact List.mem_range.1 (hp.mem_iff.1 (List.getElem_mem _))
  · rw [← hl]
    exact List.idxOf_lt_length_of_mem (hp.mem_iff.2 (List.mem_range.2 hn))

/-- The row of a row's code is that row, and the code of a code's row is that code (R117). -/
theorem typeCodes_inverse {P : Config.Params} (h : P.wf = true) {n : Nat} (hn : n < 8) :
    Operands.codeRow P (Operands.rowCode P n) = n ∧ Operands.rowCode P (Operands.codeRow P n) = n := by
  have hp := typeCodes_perm h
  have hl : (Operands.typeCodes P).length = 8 := by simpa using hp.length_eq
  have hc : Operands.codeRow P n < (Operands.typeCodes P).length := by rw [hl]; exact (typeCodes_lt h hn).2
  constructor
  · rw [Operands.rowCode, List.getD_eq_getElem _ _ (by omega : n < (Operands.typeCodes P).length)]
    exact (hp.nodup_iff.2 List.nodup_range).idxOf_getElem n _
  · rw [Operands.rowCode, List.getD_eq_getElem _ _ hc]
    exact List.getElem_idxOf hc

/-- A length addend is at most 3, which keeps a match within MAX_MATCH_LEN (R232, R233). -/
theorem lenPlus_le {P : Config.Params} (h : P.wf = true) (d : Nat) : Operands.lenPlus P d ≤ 3 := by
  simp only [Config.Params.wf, Bool.and_eq_true, decide_eq_true_eq, List.all_eq_true] at h
  obtain ⟨⟨⟨-, hp⟩, -⟩, -⟩ := h
  unfold Operands.lenPlus
  split
  · by_cases hd : Operands.distNumBits d < P.lenPlus.length
    · rw [List.getD_eq_getElem _ _ hd]
      exact hp _ (List.getElem_mem hd)
    · rw [List.getD_eq_default _ _ (by omega)]
      omega
  · omega

end Sys2Proof.Machine
end

