-- ==== Sys2Proof/Laws/PerInstr.lean ====
section
/-! SUPPORT. One lemma per instruction: its format, table value and operand values lead back to it (30_encoding.md R132). -/

namespace Sys2Proof.Laws.RowTrip

/-- A well-formed instruction, whatever the parameters, of a format whose fields are a table value and operand values is the row of those. -/
def Statement (i : Instr) : Prop :=
  ∀ P, i.wellFormed P = true → i.format ≠ .props → i.format ≠ .blockFlags → ofRow i.format i.symbol i.operands = some i

theorem props (r0 : BitVec 3) (pow : BitVec 5) (frac : BitVec 5) (r1 : Bool) (v7 : Bool) (solid : Bool) : Statement (.props r0 pow frac r1 v7 solid) := fun _ _ h _ => absurd rfl h

theorem blkhdr0 (b7m1 : BitVec 3) (r5 : Bool) (last : Bool) (tables : Bool) (cx : Byte) (s0 : Byte) : Statement (.blkhdr0 b7m1 r5 last tables cx s0) := fun _ _ _ h => absurd rfl h

theorem blkhdr1 (b7m1 : BitVec 3) (r5 : Bool) (last : Bool) (tables : Bool) (cx : Byte) (s0 : Byte) (s1 : Byte) : Statement (.blkhdr1 b7m1 r5 last tables cx s0 s1) := fun _ _ _ h => absurd rfl h

theorem blkhdr2 (b7m1 : BitVec 3) (r5 : Bool) (last : Bool) (tables : Bool) (cx : Byte) (s0 : Byte) (s1 : Byte) (s2 : Byte) : Statement (.blkhdr2 b7m1 r5 last tables cx s0 s1 s2) := fun _ _ _ h => absurd rfl h

theorem blkhdrNum3 (b7m1 : BitVec 3) (r5 : Bool) (last : Bool) (tables : Bool) (cx : Byte) : Statement (.blkhdrNum3 b7m1 r5 last tables cx) := fun _ _ _ h => absurd rfl h

theorem lvlNib0 : Statement (.lvlNib0) := fun _ _ _ _ => rfl

theorem lvlNib1 : Statement (.lvlNib1) := fun _ _ _ _ => rfl

theorem lvlNib2 : Statement (.lvlNib2) := fun _ _ _ _ => rfl

theorem lvlNib3 : Statement (.lvlNib3) := fun _ _ _ _ => rfl

theorem lvlNib4 : Statement (.lvlNib4) := fun _ _ _ _ => rfl

theorem lvlNib5 : Statement (.lvlNib5) := fun _ _ _ _ => rfl

theorem lvlNib6 : Statement (.lvlNib6) := fun _ _ _ _ => rfl

theorem lvlNib7 : Statement (.lvlNib7) := fun _ _ _ _ => rfl

theorem lvlNib8 : Statement (.lvlNib8) := fun _ _ _ _ => rfl

theorem lvlNib9 : Statement (.lvlNib9) := fun _ _ _ _ => rfl

theorem lvlNib10 : Statement (.lvlNib10) := fun _ _ _ _ => rfl

theorem lvlNib11 : Statement (.lvlNib11) := fun _ _ _ _ => rfl

theorem lvlNib12 : Statement (.lvlNib12) := fun _ _ _ _ => rfl

theorem lvlNib13 : Statement (.lvlNib13) := fun _ _ _ _ => rfl

theorem lvlNib14 : Statement (.lvlNib14) := fun _ _ _ _ => rfl

theorem lvlEsc : Statement (.lvlEsc) := fun _ _ _ _ => rfl

theorem lvlNib15 : Statement (.lvlNib15) := fun _ _ _ _ => rfl

theorem lvlZrun1 : Statement (.lvlZrun1) := fun _ _ _ _ => rfl

theorem lvlZrun2 : Statement (.lvlZrun2) := fun _ _ _ _ => rfl

theorem lvlZrun3 : Statement (.lvlZrun3) := fun _ _ _ _ => rfl

theorem lvlZrun4 : Statement (.lvlZrun4) := fun _ _ _ _ => rfl

theorem lvlZrun5 : Statement (.lvlZrun5) := fun _ _ _ _ => rfl

theorem lvlZrun6 : Statement (.lvlZrun6) := fun _ _ _ _ => rfl

theorem lvlZrun7 : Statement (.lvlZrun7) := fun _ _ _ _ => rfl

theorem lvlZrun8 : Statement (.lvlZrun8) := fun _ _ _ _ => rfl

theorem lvlZrun9 : Statement (.lvlZrun9) := fun _ _ _ _ => rfl

theorem lvlZrun10 : Statement (.lvlZrun10) := fun _ _ _ _ => rfl

theorem lvlZrun11 : Statement (.lvlZrun11) := fun _ _ _ _ => rfl

theorem lvlZrun12 : Statement (.lvlZrun12) := fun _ _ _ _ => rfl

theorem lvlZrun13 : Statement (.lvlZrun13) := fun _ _ _ _ => rfl

theorem lvlZrun14 : Statement (.lvlZrun14) := fun _ _ _ _ => rfl

theorem lvlZrun15 : Statement (.lvlZrun15) := fun _ _ _ _ => rfl

theorem lvLen0 : Statement (.lvLen0) := fun _ _ _ _ => rfl

theorem lvLen1 : Statement (.lvLen1) := fun _ _ _ _ => rfl

theorem lvLen2 : Statement (.lvLen2) := fun _ _ _ _ => rfl

theorem lvLen3 : Statement (.lvLen3) := fun _ _ _ _ => rfl

theorem lvLen4 : Statement (.lvLen4) := fun _ _ _ _ => rfl

theorem lvLen5 : Statement (.lvLen5) := fun _ _ _ _ => rfl

theorem lvLen6 : Statement (.lvLen6) := fun _ _ _ _ => rfl

theorem lvLen7 : Statement (.lvLen7) := fun _ _ _ _ => rfl

theorem lvLen8 : Statement (.lvLen8) := fun _ _ _ _ => rfl

theorem lvLen9 : Statement (.lvLen9) := fun _ _ _ _ => rfl

theorem lvLen10 : Statement (.lvLen10) := fun _ _ _ _ => rfl

theorem lvLen11 : Statement (.lvLen11) := fun _ _ _ _ => rfl

theorem lvLen12 : Statement (.lvLen12) := fun _ _ _ _ => rfl

theorem lvLen13 : Statement (.lvLen13) := fun _ _ _ _ => rfl

theorem lvLen14 : Statement (.lvLen14) := fun _ _ _ _ => rfl

theorem lvLen15 : Statement (.lvLen15) := fun _ _ _ _ => rfl

theorem lvRepS (e : Nat) : Statement (.lvRepS e) := fun _ _ _ _ => rfl

theorem lvRepL (e : Nat) : Statement (.lvRepL e) := fun _ _ _ _ => rfl

theorem lvZeroS (e : Nat) : Statement (.lvZeroS e) := fun _ _ _ _ => rfl

theorem lvZeroL (e : Nat) : Statement (.lvZeroL e) := fun _ _ _ _ => rfl

theorem lit (b : Byte) : Statement (.lit b) := fun _ _ _ _ => by
  have := b.isLt
  simp [Instr.format, Instr.symbol, Instr.operands, ofRow, this]

theorem filter : Statement (.filter) := fun _ _ _ _ => rfl

theorem lastlen : Statement (.lastlen) := fun _ _ _ _ => rfl

theorem rep0 : Statement (.rep0) := fun _ _ _ _ => rfl

theorem rep1 : Statement (.rep1) := fun _ _ _ _ => rfl

theorem rep2 : Statement (.rep2) := fun _ _ _ _ => rfl

theorem rep3 : Statement (.rep3) := fun _ _ _ _ => rfl

theorem matchSlot0 : Statement (.matchSlot0) := fun _ _ _ _ => rfl

theorem matchSlot1 : Statement (.matchSlot1) := fun _ _ _ _ => rfl

theorem matchSlot2 : Statement (.matchSlot2) := fun _ _ _ _ => rfl

theorem matchSlot3 : Statement (.matchSlot3) := fun _ _ _ _ => rfl

theorem matchSlot4 : Statement (.matchSlot4) := fun _ _ _ _ => rfl

theorem matchSlot5 : Statement (.matchSlot5) := fun _ _ _ _ => rfl

theorem matchSlot6 : Statement (.matchSlot6) := fun _ _ _ _ => rfl

theorem matchSlot7 : Statement (.matchSlot7) := fun _ _ _ _ => rfl

theorem matchSlot8 (x : Nat) : Statement (.matchSlot8 x) := fun _ _ _ _ => rfl

theorem matchSlot9 (x : Nat) : Statement (.matchSlot9 x) := fun _ _ _ _ => rfl

theorem matchSlot10 (x : Nat) : Statement (.matchSlot10 x) := fun _ _ _ _ => rfl

theorem matchSlot11 (x : Nat) : Statement (.matchSlot11 x) := fun _ _ _ _ => rfl

theorem matchSlot12 (x : Nat) : Statement (.matchSlot12 x) := fun _ _ _ _ => rfl

theorem matchSlot13 (x : Nat) : Statement (.matchSlot13 x) := fun _ _ _ _ => rfl

theorem matchSlot14 (x : Nat) : Statement (.matchSlot14 x) := fun _ _ _ _ => rfl

theorem matchSlot15 (x : Nat) : Statement (.matchSlot15 x) := fun _ _ _ _ => rfl

theorem matchSlot16 (x : Nat) : Statement (.matchSlot16 x) := fun _ _ _ _ => rfl

theorem matchSlot17 (x : Nat) : Statement (.matchSlot17 x) := fun _ _ _ _ => rfl

theorem matchSlot18 (x : Nat) : Statement (.matchSlot18 x) := fun _ _ _ _ => rfl

theorem matchSlot19 (x : Nat) : Statement (.matchSlot19 x) := fun _ _ _ _ => rfl

theorem matchSlot20 (x : Nat) : Statement (.matchSlot20 x) := fun _ _ _ _ => rfl

theorem matchSlot21 (x : Nat) : Statement (.matchSlot21 x) := fun _ _ _ _ => rfl

theorem matchSlot22 (x : Nat) : Statement (.matchSlot22 x) := fun _ _ _ _ => rfl

theorem matchSlot23 (x : Nat) : Statement (.matchSlot23 x) := fun _ _ _ _ => rfl

theorem matchSlot24 (x : Nat) : Statement (.matchSlot24 x) := fun _ _ _ _ => rfl

theorem matchSlot25 (x : Nat) : Statement (.matchSlot25 x) := fun _ _ _ _ => rfl

theorem matchSlot26 (x : Nat) : Statement (.matchSlot26 x) := fun _ _ _ _ => rfl

theorem matchSlot27 (x : Nat) : Statement (.matchSlot27 x) := fun _ _ _ _ => rfl

theorem matchSlot28 (x : Nat) : Statement (.matchSlot28 x) := fun _ _ _ _ => rfl

theorem matchSlot29 (x : Nat) : Statement (.matchSlot29 x) := fun _ _ _ _ => rfl

theorem matchSlot30 (x : Nat) : Statement (.matchSlot30 x) := fun _ _ _ _ => rfl

theorem matchSlot31 (x : Nat) : Statement (.matchSlot31 x) := fun _ _ _ _ => rfl

theorem matchSlot32 (x : Nat) : Statement (.matchSlot32 x) := fun _ _ _ _ => rfl

theorem matchSlot33 (x : Nat) : Statement (.matchSlot33 x) := fun _ _ _ _ => rfl

theorem matchSlot34 (x : Nat) : Statement (.matchSlot34 x) := fun _ _ _ _ => rfl

theorem matchSlot35 (x : Nat) : Statement (.matchSlot35 x) := fun _ _ _ _ => rfl

theorem matchSlot36 (x : Nat) : Statement (.matchSlot36 x) := fun _ _ _ _ => rfl

theorem matchSlot37 (x : Nat) : Statement (.matchSlot37 x) := fun _ _ _ _ => rfl

theorem matchSlot38 (x : Nat) : Statement (.matchSlot38 x) := fun _ _ _ _ => rfl

theorem matchSlot39 (x : Nat) : Statement (.matchSlot39 x) := fun _ _ _ _ => rfl

theorem matchSlot40 (x : Nat) : Statement (.matchSlot40 x) := fun _ _ _ _ => rfl

theorem matchSlot41 (x : Nat) : Statement (.matchSlot41 x) := fun _ _ _ _ => rfl

theorem matchSlot42 (x : Nat) : Statement (.matchSlot42 x) := fun _ _ _ _ => rfl

theorem matchSlot43 (x : Nat) : Statement (.matchSlot43 x) := fun _ _ _ _ => rfl

theorem reserved306 : Statement (.reserved306) := fun _ _ _ _ => rfl

theorem reserved307 : Statement (.reserved307) := fun _ _ _ _ => rfl

theorem reserved308 : Statement (.reserved308) := fun _ _ _ _ => rfl

theorem reserved309 : Statement (.reserved309) := fun _ _ _ _ => rfl

theorem reserved310 : Statement (.reserved310) := fun _ _ _ _ => rfl

theorem reserved311 : Statement (.reserved311) := fun _ _ _ _ => rfl

theorem lenSlot0 : Statement (.lenSlot0) := fun _ _ _ _ => rfl

theorem lenSlot1 : Statement (.lenSlot1) := fun _ _ _ _ => rfl

theorem lenSlot2 : Statement (.lenSlot2) := fun _ _ _ _ => rfl

theorem lenSlot3 : Statement (.lenSlot3) := fun _ _ _ _ => rfl

theorem lenSlot4 : Statement (.lenSlot4) := fun _ _ _ _ => rfl

theorem lenSlot5 : Statement (.lenSlot5) := fun _ _ _ _ => rfl

theorem lenSlot6 : Statement (.lenSlot6) := fun _ _ _ _ => rfl

theorem lenSlot7 : Statement (.lenSlot7) := fun _ _ _ _ => rfl

theorem lenSlot8 (x : Nat) : Statement (.lenSlot8 x) := fun _ _ _ _ => rfl

theorem lenSlot9 (x : Nat) : Statement (.lenSlot9 x) := fun _ _ _ _ => rfl

theorem lenSlot10 (x : Nat) : Statement (.lenSlot10 x) := fun _ _ _ _ => rfl

theorem lenSlot11 (x : Nat) : Statement (.lenSlot11 x) := fun _ _ _ _ => rfl

theorem lenSlot12 (x : Nat) : Statement (.lenSlot12 x) := fun _ _ _ _ => rfl

theorem lenSlot13 (x : Nat) : Statement (.lenSlot13 x) := fun _ _ _ _ => rfl

theorem lenSlot14 (x : Nat) : Statement (.lenSlot14 x) := fun _ _ _ _ => rfl

theorem lenSlot15 (x : Nat) : Statement (.lenSlot15 x) := fun _ _ _ _ => rfl

theorem lenSlot16 (x : Nat) : Statement (.lenSlot16 x) := fun _ _ _ _ => rfl

theorem lenSlot17 (x : Nat) : Statement (.lenSlot17 x) := fun _ _ _ _ => rfl

theorem lenSlot18 (x : Nat) : Statement (.lenSlot18 x) := fun _ _ _ _ => rfl

theorem lenSlot19 (x : Nat) : Statement (.lenSlot19 x) := fun _ _ _ _ => rfl

theorem lenSlot20 (x : Nat) : Statement (.lenSlot20 x) := fun _ _ _ _ => rfl

theorem lenSlot21 (x : Nat) : Statement (.lenSlot21 x) := fun _ _ _ _ => rfl

theorem lenSlot22 (x : Nat) : Statement (.lenSlot22 x) := fun _ _ _ _ => rfl

theorem lenSlot23 (x : Nat) : Statement (.lenSlot23 x) := fun _ _ _ _ => rfl

theorem lenSlot24 (x : Nat) : Statement (.lenSlot24 x) := fun _ _ _ _ => rfl

theorem lenSlot25 (x : Nat) : Statement (.lenSlot25 x) := fun _ _ _ _ => rfl

theorem lenSlot26 (x : Nat) : Statement (.lenSlot26 x) := fun _ _ _ _ => rfl

theorem lenSlot27 (x : Nat) : Statement (.lenSlot27 x) := fun _ _ _ _ => rfl

theorem lenSlot28 (x : Nat) : Statement (.lenSlot28 x) := fun _ _ _ _ => rfl

theorem lenSlot29 (x : Nat) : Statement (.lenSlot29 x) := fun _ _ _ _ => rfl

theorem lenSlot30 (x : Nat) : Statement (.lenSlot30 x) := fun _ _ _ _ => rfl

theorem lenSlot31 (x : Nat) : Statement (.lenSlot31 x) := fun _ _ _ _ => rfl

theorem lenSlot32 (x : Nat) : Statement (.lenSlot32 x) := fun _ _ _ _ => rfl

theorem lenSlot33 (x : Nat) : Statement (.lenSlot33 x) := fun _ _ _ _ => rfl

theorem lenSlot34 (x : Nat) : Statement (.lenSlot34 x) := fun _ _ _ _ => rfl

theorem lenSlot35 (x : Nat) : Statement (.lenSlot35 x) := fun _ _ _ _ => rfl

theorem lenSlot36 (x : Nat) : Statement (.lenSlot36 x) := fun _ _ _ _ => rfl

theorem lenSlot37 (x : Nat) : Statement (.lenSlot37 x) := fun _ _ _ _ => rfl

theorem lenSlot38 (x : Nat) : Statement (.lenSlot38 x) := fun _ _ _ _ => rfl

theorem lenSlot39 (x : Nat) : Statement (.lenSlot39 x) := fun _ _ _ _ => rfl

theorem lenSlot40 (x : Nat) : Statement (.lenSlot40 x) := fun _ _ _ _ => rfl

theorem lenSlot41 (x : Nat) : Statement (.lenSlot41 x) := fun _ _ _ _ => rfl

theorem lenSlot42 (x : Nat) : Statement (.lenSlot42 x) := fun _ _ _ _ => rfl

theorem lenSlot43 (x : Nat) : Statement (.lenSlot43 x) := fun _ _ _ _ => rfl

theorem distSlot0 : Statement (.distSlot0) := fun _ _ _ _ => rfl

theorem distSlot1 : Statement (.distSlot1) := fun _ _ _ _ => rfl

theorem distSlot2 : Statement (.distSlot2) := fun _ _ _ _ => rfl

theorem distSlot3 : Statement (.distSlot3) := fun _ _ _ _ => rfl

theorem distSlot4 (low : Nat) : Statement (.distSlot4 low) := fun _ _ _ _ => rfl

theorem distSlot5 (low : Nat) : Statement (.distSlot5 low) := fun _ _ _ _ => rfl

theorem distSlot6 (low : Nat) : Statement (.distSlot6 low) := fun _ _ _ _ => rfl

theorem distSlot7 (low : Nat) : Statement (.distSlot7 low) := fun _ _ _ _ => rfl

theorem distSlot8 (low : Nat) : Statement (.distSlot8 low) := fun _ _ _ _ => rfl

theorem distSlot9 (low : Nat) : Statement (.distSlot9 low) := fun _ _ _ _ => rfl

theorem distSlot10 (lo4 : Nat) : Statement (.distSlot10 lo4) := fun _ _ _ _ => rfl

theorem distSlot11 (lo4 : Nat) : Statement (.distSlot11 lo4) := fun _ _ _ _ => rfl

theorem distSlot12 (high : Nat) (lo4 : Nat) : Statement (.distSlot12 high lo4) := fun _ _ _ _ => rfl

theorem distSlot13 (high : Nat) (lo4 : Nat) : Statement (.distSlot13 high lo4) := fun _ _ _ _ => rfl

theorem distSlot14 (high : Nat) (lo4 : Nat) : Statement (.distSlot14 high lo4) := fun _ _ _ _ => rfl

theorem distSlot15 (high : Nat) (lo4 : Nat) : Statement (.distSlot15 high lo4) := fun _ _ _ _ => rfl

theorem distSlot16 (high : Nat) (lo4 : Nat) : Statement (.distSlot16 high lo4) := fun _ _ _ _ => rfl

theorem distSlot17 (high : Nat) (lo4 : Nat) : Statement (.distSlot17 high lo4) := fun _ _ _ _ => rfl

theorem distSlot18 (high : Nat) (lo4 : Nat) : Statement (.distSlot18 high lo4) := fun _ _ _ _ => rfl

theorem distSlot19 (high : Nat) (lo4 : Nat) : Statement (.distSlot19 high lo4) := fun _ _ _ _ => rfl

theorem distSlot20 (high : Nat) (lo4 : Nat) : Statement (.distSlot20 high lo4) := fun _ _ _ _ => rfl

theorem distSlot21 (high : Nat) (lo4 : Nat) : Statement (.distSlot21 high lo4) := fun _ _ _ _ => rfl

theorem distSlot22 (high : Nat) (lo4 : Nat) : Statement (.distSlot22 high lo4) := fun _ _ _ _ => rfl

theorem distSlot23 (high : Nat) (lo4 : Nat) : Statement (.distSlot23 high lo4) := fun _ _ _ _ => rfl

theorem distSlot24 (high : Nat) (lo4 : Nat) : Statement (.distSlot24 high lo4) := fun _ _ _ _ => rfl

theorem distSlot25 (high : Nat) (lo4 : Nat) : Statement (.distSlot25 high lo4) := fun _ _ _ _ => rfl

theorem distSlot26 (high : Nat) (lo4 : Nat) : Statement (.distSlot26 high lo4) := fun _ _ _ _ => rfl

theorem distSlot27 (high : Nat) (lo4 : Nat) : Statement (.distSlot27 high lo4) := fun _ _ _ _ => rfl

theorem distSlot28 (high : Nat) (lo4 : Nat) : Statement (.distSlot28 high lo4) := fun _ _ _ _ => rfl

theorem distSlot29 (high : Nat) (lo4 : Nat) : Statement (.distSlot29 high lo4) := fun _ _ _ _ => rfl

theorem distSlot30 (high : Nat) (lo4 : Nat) : Statement (.distSlot30 high lo4) := fun _ _ _ _ => rfl

theorem distSlot31 (high : Nat) (lo4 : Nat) : Statement (.distSlot31 high lo4) := fun _ _ _ _ => rfl

theorem distSlot32 (high : Nat) (lo4 : Nat) : Statement (.distSlot32 high lo4) := fun _ _ _ _ => rfl

theorem distSlot33 (high : Nat) (lo4 : Nat) : Statement (.distSlot33 high lo4) := fun _ _ _ _ => rfl

theorem distSlot34 (high : Nat) (lo4 : Nat) : Statement (.distSlot34 high lo4) := fun _ _ _ _ => rfl

theorem distSlot35 (high : Nat) (lo4 : Nat) : Statement (.distSlot35 high lo4) := fun _ _ _ _ => rfl

theorem distSlot36 (high : Nat) (lo4 : Nat) : Statement (.distSlot36 high lo4) := fun _ _ _ _ => rfl

theorem distSlot37 (high : Nat) (lo4 : Nat) : Statement (.distSlot37 high lo4) := fun _ _ _ _ => rfl

theorem distSlot38 (high : Nat) (lo4 : Nat) : Statement (.distSlot38 high lo4) := fun _ _ _ _ => rfl

theorem distSlot39 (high : Nat) (lo4 : Nat) : Statement (.distSlot39 high lo4) := fun _ _ _ _ => rfl

theorem distSlot40 (high : Nat) (lo4 : Nat) : Statement (.distSlot40 high lo4) := fun _ _ _ _ => rfl

theorem distSlot41 (high : Nat) (lo4 : Nat) : Statement (.distSlot41 high lo4) := fun _ _ _ _ => rfl

theorem distSlot42 (high : Nat) (lo4 : Nat) : Statement (.distSlot42 high lo4) := fun _ _ _ _ => rfl

theorem distSlot43 (high : Nat) (lo4 : Nat) : Statement (.distSlot43 high lo4) := fun _ _ _ _ => rfl

theorem distSlot44 (high : Nat) (lo4 : Nat) : Statement (.distSlot44 high lo4) := fun _ _ _ _ => rfl

theorem distSlot45 (high : Nat) (lo4 : Nat) : Statement (.distSlot45 high lo4) := fun _ _ _ _ => rfl

theorem distSlot46 (high : Nat) (lo4 : Nat) : Statement (.distSlot46 high lo4) := fun _ _ _ _ => rfl

theorem distSlot47 (high : Nat) (lo4 : Nat) : Statement (.distSlot47 high lo4) := fun _ _ _ _ => rfl

theorem distSlot48 (high : Nat) (lo4 : Nat) : Statement (.distSlot48 high lo4) := fun _ _ _ _ => rfl

theorem distSlot49 (high : Nat) (lo4 : Nat) : Statement (.distSlot49 high lo4) := fun _ _ _ _ => rfl

theorem distSlot50 (high : Nat) (lo4 : Nat) : Statement (.distSlot50 high lo4) := fun _ _ _ _ => rfl

theorem distSlot51 (high : Nat) (lo4 : Nat) : Statement (.distSlot51 high lo4) := fun _ _ _ _ => rfl

theorem distSlot52 (high : Nat) (lo4 : Nat) : Statement (.distSlot52 high lo4) := fun _ _ _ _ => rfl

theorem distSlot53 (high : Nat) (lo4 : Nat) : Statement (.distSlot53 high lo4) := fun _ _ _ _ => rfl

theorem distSlot54 (high : Nat) (lo4 : Nat) : Statement (.distSlot54 high lo4) := fun _ _ _ _ => rfl

theorem distSlot55 (high : Nat) (lo4 : Nat) : Statement (.distSlot55 high lo4) := fun _ _ _ _ => rfl

theorem distSlot56 (high : Nat) (lo4 : Nat) : Statement (.distSlot56 high lo4) := fun _ _ _ _ => rfl

theorem distSlot57 (high : Nat) (lo4 : Nat) : Statement (.distSlot57 high lo4) := fun _ _ _ _ => rfl

theorem distSlot58 (high : Nat) (lo4 : Nat) : Statement (.distSlot58 high lo4) := fun _ _ _ _ => rfl

theorem distSlot59 (high : Nat) (lo4 : Nat) : Statement (.distSlot59 high lo4) := fun _ _ _ _ => rfl

theorem distSlot60 (high : Nat) (lo4 : Nat) : Statement (.distSlot60 high lo4) := fun _ _ _ _ => rfl

theorem distSlot61 (high : Nat) (lo4 : Nat) : Statement (.distSlot61 high lo4) := fun _ _ _ _ => rfl

theorem distSlot62 : Statement (.distSlot62) := fun _ _ _ _ => rfl

theorem distSlot63 : Statement (.distSlot63) := fun _ _ _ _ => rfl

theorem distSlot64 : Statement (.distSlot64) := fun _ _ _ _ => rfl

theorem distSlot65 : Statement (.distSlot65) := fun _ _ _ _ => rfl

theorem distSlot66 : Statement (.distSlot66) := fun _ _ _ _ => rfl

theorem distSlot67 : Statement (.distSlot67) := fun _ _ _ _ => rfl

theorem distSlot68 : Statement (.distSlot68) := fun _ _ _ _ => rfl

theorem distSlot69 : Statement (.distSlot69) := fun _ _ _ _ => rfl

theorem distSlot70 : Statement (.distSlot70) := fun _ _ _ _ => rfl

theorem distSlot71 : Statement (.distSlot71) := fun _ _ _ _ => rfl

theorem distSlot72 : Statement (.distSlot72) := fun _ _ _ _ => rfl

theorem distSlot73 : Statement (.distSlot73) := fun _ _ _ _ => rfl

theorem distSlot74 : Statement (.distSlot74) := fun _ _ _ _ => rfl

theorem distSlot75 : Statement (.distSlot75) := fun _ _ _ _ => rfl

theorem distSlot76 : Statement (.distSlot76) := fun _ _ _ _ => rfl

theorem distSlot77 : Statement (.distSlot77) := fun _ _ _ _ => rfl

theorem distSlot78 : Statement (.distSlot78) := fun _ _ _ _ => rfl

theorem distSlot79 : Statement (.distSlot79) := fun _ _ _ _ => rfl

theorem vu32Sel0 (b0 : Byte) : Statement (.vu32Sel0 b0) := fun _ _ _ _ => by
  simp [Instr.format, Instr.symbol, Instr.operands, ofRow, vuRow]

theorem vu32Sel1 (b0 : Byte) (b1 : Byte) : Statement (.vu32Sel1 b0 b1) := fun _ _ _ _ => by
  simp [Instr.format, Instr.symbol, Instr.operands, ofRow, vuRow]

theorem vu32Sel2 (b0 : Byte) (b1 : Byte) (b2 : Byte) : Statement (.vu32Sel2 b0 b1 b2) := fun _ _ _ _ => by
  simp [Instr.format, Instr.symbol, Instr.operands, ofRow, vuRow]

theorem vu32Sel3 (b0 : Byte) (b1 : Byte) (b2 : Byte) (b3 : Byte) : Statement (.vu32Sel3 b0 b1 b2 b3) := fun _ _ _ _ => by
  simp [Instr.format, Instr.symbol, Instr.operands, ofRow, vuRow]

theorem typeDelta (channelsM1 : BitVec 5) : Statement (.typeDelta channelsM1) := fun _ _ _ _ => by
  simp [Instr.format, Instr.symbol, Instr.operands, ofRow, filterTypeRow]

theorem typeE8 : Statement (.typeE8) := fun _ _ _ _ => rfl

theorem typeE8E9 : Statement (.typeE8E9) := fun _ _ _ _ => rfl

theorem typeArm : Statement (.typeArm) := fun _ _ _ _ => rfl

theorem type4 : Statement (.type4) := fun _ _ _ _ => rfl

theorem type5 : Statement (.type5) := fun _ _ _ _ => rfl

theorem type6 : Statement (.type6) := fun _ _ _ _ => rfl

theorem type7 : Statement (.type7) := fun _ _ _ _ => rfl

end Sys2Proof.Laws.RowTrip
end

