-- ==== Sys2Proof/Tests/Slice0.lean ====
section
/-! SUPPORT. The model's own tests. Expected values come from spec/: its rules' examples and tables and 95_test_vectors.md. Each
`witness_` theorem shows operands and a state that meet the hypotheses of the obligation it names. -/

namespace Sys2Proof.Tests

open Sys2Proof Sys2Proof.Machine

-- Lean gives every thread an arena of its own: checking these theorems one after another keeps the memory small.
set_option Elab.async false

/-! Helpers. -/

/-- Bytes from numbers. -/
def bytes (l : List Nat) : List Byte := l.map (BitVec.ofNat 8)

/-- The bits of some bytes. -/
def bitsOf (l : List Nat) : List Bool := l.flatMap (toBits 8)

/-- The next state of an outcome, where it is one. -/
def nextOf (o : Host.Outcome State Fault Refusal) : Option State :=
  match o with
  | .next t => some t
  | _ => none

/-- The refusal of an outcome, where it is one. -/
def refusalIn (o : Host.Outcome State Fault Refusal) : Option Refusal :=
  match o with
  | .refused r => some r
  | _ => none

/-- The state of an operation that goes through. -/
def okOf (x : Flow State) : Option State :=
  match x with
  | .ok t => some t
  | _ => none

/-- The kind of error an operation raises, where it does. -/
def raisedIn (x : Flow State) : Option ErrorKind :=
  match x with
  | .raised k _ => some k
  | _ => none

/-- The first `n` window bytes hold their index. -/
def win (n : Nat) : Memory := (List.range n).map fun i => (i, BitVec.ofNat 8 i)

/-- A context of a format with a code and no align code. -/
def ctx (f : Format) (H : Huff) : DecodeCtx := { fmt := f, sym := H, align := none }

/-- The decoder of `n` symbols with code words of `k` bits each: symbol `s` has the word of value `s` (R174). -/
def flat (n k : Nat) : Huff :=
  { lens := List.replicate n k
    count := codeLens.map fun l => if l = k then n else 0
    start := codeLens.map (fun l => if k < l then n * 2 ^ (15 - k) else 0) ++ [n * 2 ^ (15 - k)]
    off := codeLens.map (fun l => if k < l then n else 0) ++ [n]
    syms := List.range n
    fast := [none]
    empty := false }

/-- A small machine inside a file: 16 bytes in a window of 64, `repDist = [10, 12, 13, 14]`, `lastLength = 7`. -/
def base : State :=
  { State.reset with
    phase := .symbols
    windowSize := 64
    dictSizeForCheck := 64
    limit := 64
    windowPos := 16
    window := win 16
    repDist := ⟨10, 12, 13, 14⟩
    lastLength := 7
    src := { bytes := bytes [0xA5, 0x3C, 0xF0], ioAt := none }
    blockEnd := 3
    tablesFilled := true }

/-! Ill-formed instructions are refused, well-formed ones are not (R106, R111, R112). -/

theorem test_wellFormed_refuses :
    [Instr.lvRepS 8, .lvRepL 128, .lvZeroS 8, .lvZeroL 128, .matchSlot8 2, .matchSlot43 512, .lenSlot8 2, .lenSlot12 4,
      .lenSlot43 512, .distSlot4 2, .distSlot9 8, .distSlot10 16, .distSlot12 2 0, .distSlot12 0 16,
      .distSlot61 (2 ^ 25) 0].map (·.wellFormed) = List.replicate 15 false := by decide +kernel

theorem test_wellFormed_accepts :
    [Instr.lvRepS 7, .lvRepL 127, .lvZeroS 7, .lvZeroL 127, .matchSlot7, .matchSlot8 1, .matchSlot43 511, .lenSlot8 1, .lenSlot12 3,
      .lenSlot43 511, .distSlot4 1, .distSlot9 7, .distSlot10 15, .distSlot12 1 15, .distSlot61 (2 ^ 25 - 1) 15, .distSlot62,
      .props 7 31 31 true true true, .blkhdr2 7 true true true 255 255 255 255, .typeDelta 31, .vu32Sel3 255 255 255 255,
      .lit 255].map (·.wellFormed) = List.replicate 21 true := by decide +kernel

/-- R12: the defaults and every alternative that is recorded are parameters a machine can have. -/
theorem test_params_accepted :
    [Config.params, { Config.params with mainSize := 306 }, { Config.params with levelRepBase := [3, 11, 3, 11] },
      { Config.params with blockEndBias := 0 }, { Config.params with eofUndefinedOk := false },
      { Config.params with typeDelta := 7, typeE8 := 0 }].map Config.Params.wf = List.replicate 6 true := by decide +kernel

/-- Two types of one code, a code beyond its three bits, a main symbol without a row, a length beyond MAX_MATCH_LEN. -/
theorem test_params_refused :
    [{ Config.params with typeE8 := 0 }, { Config.params with typeArm := 8 }, { Config.params with mainSize := 313 },
      { Config.params with lenPlus := List.replicate 40 4 }].map Config.Params.wf = List.replicate 4 false := by decide +kernel

/-! Decoding, one theorem per format: every constructor from a word written out from the spec's encoding. -/

/-- R174, R176: `flat` is the code that `build` makes of equal lengths. -/
theorem test_flat_is_built : flat 20 5 = Huff.ofLens 0 (List.replicate 20 5) ∧ flat 80 7 = Huff.ofLens 0 (List.replicate 80 7) := by
  decide +kernel

/-- R101, and 95_test_vectors.md 3.9, row `E1 FF`: the undescribed bits are operands that nothing reads. -/
theorem test_decode_props :
    decode (ctx .props default) (bitsOf [0x01, 0x80]) = .ok (.props 0 1 16 false false false) 16 ∧
    decode (ctx .props default) (bitsOf [0x06, 0x03]) = .ok (.props 0 6 0 false true true) 16 ∧
    decode (ctx .props default) (bitsOf [0xE1, 0xFF]) = .ok (.props 7 1 31 true true true) 16 := ⟨rfl, rfl, rfl⟩

/-- R102, R103: the headers of 95_test_vectors.md 3.3. -/
theorem test_decode_header :
    [[0xC6, 0x94, 0x08], [0x8F, 0xF3, 0x34, 0x12], [0x57, 0x0C, 0x00, 0x00, 0x01], [0x27, 0x7F, 0x02], [0x58, 0x00]].map
      (fun l => decode (ctx .blockFlags default) (bitsOf l)) =
    [.ok (.blkhdr0 6 false true true 0x94 0x08) 24, .ok (.blkhdr1 7 false false true 0xF3 0x34 0x12) 32,
      .ok (.blkhdr2 7 false true false 0x0C 0x00 0x00 0x01) 40, .ok (.blkhdr0 7 true false false 0x7F 0x02) 24,
      .ok (.blkhdrNum3 0 false true false 0x00) 16] := by rfl

/-- R105: the sixteen nibbles. -/
theorem test_decode_levelNib :
    (List.range 16).map (fun n => decode (ctx .levelNib default) (toBits 4 n)) =
    (([.lvlNib0, .lvlNib1, .lvlNib2, .lvlNib3, .lvlNib4, .lvlNib5, .lvlNib6, .lvlNib7, .lvlNib8, .lvlNib9, .lvlNib10, .lvlNib11, .lvlNib12, .lvlNib13, .lvlNib14, .lvlEsc] : List Instr)).map (Decoded.ok · 4) := by rfl

/-- R105: the sixteen second nibbles. -/
theorem test_decode_levelNib2 :
    (List.range 16).map (fun n => decode (ctx .levelNib2 default) (toBits 4 n)) =
    (([.lvlNib15, .lvlZrun1, .lvlZrun2, .lvlZrun3, .lvlZrun4, .lvlZrun5, .lvlZrun6, .lvlZrun7, .lvlZrun8, .lvlZrun9, .lvlZrun10, .lvlZrun11, .lvlZrun12, .lvlZrun13, .lvlZrun14, .lvlZrun15] : List Instr)).map (Decoded.ok · 4) := by rfl

/-- R106: level symbols without extra bits. -/
theorem test_decode_levelSym :
    (List.range 16).map (fun s => decode (ctx .levelSym (flat 20 5)) (toBits 5 s)) =
    (([.lvLen0, .lvLen1, .lvLen2, .lvLen3, .lvLen4, .lvLen5, .lvLen6, .lvLen7, .lvLen8, .lvLen9, .lvLen10, .lvLen11, .lvLen12, .lvLen13, .lvLen14, .lvLen15] : List Instr)).zipWith Decoded.ok (List.replicate 16 5) := by
  rfl

/-- R106: level symbols with 3 or 7 extra bits. -/
theorem test_decode_levelRuns :
    [toBits 5 16 ++ toBits 3 2, toBits 5 17 ++ toBits 7 127, toBits 5 18 ++ toBits 3 0, toBits 5 19 ++ toBits 7 24].map
      (decode (ctx .levelSym (flat 20 5))) =
    [.ok (.lvRepS 2) 8, .ok (.lvRepL 127) 12, .ok (.lvZeroS 0) 8, .ok (.lvZeroL 24) 12] := by rfl

/-- R110: literals. -/
theorem test_decode_literals :
    [0, 65, 199, 200, 255].map (fun s => decode (ctx .mainSym (flat 312 9)) (toBits 9 s)) =
    [.ok (.lit 0) 9, .ok (.lit 65) 9, .ok (.lit 199) 9, .ok (.lit 200) 9, .ok (.lit 255) 9] := by rfl

/-- R110: main symbols 256 to 269, and the reserved ones. -/
theorem test_decode_main :
    (((List.range 14).map (256 + ·)) ++ ((List.range 6).map (306 + ·))).map
      (fun s => decode (ctx .mainSym (flat 312 9)) (toBits 9 s)) =
    (([.filter, .lastlen, .rep0, .rep1, .rep2, .rep3, .matchSlot0, .matchSlot1, .matchSlot2, .matchSlot3, .matchSlot4, .matchSlot5, .matchSlot6, .matchSlot7, .reserved306, .reserved307] : List Instr) ++
    ([.reserved308, .reserved309, .reserved310, .reserved311] : List Instr)).map (Decoded.ok · 9) := by rfl

/-- The extra bits of a slot in the tests: `nb` bits of value 2^nb - 2, ones and a last zero. -/
def extra (nb : Nat) : List Bool := toBits nb (2 ^ nb - 2)

/-- R110, R111: length slots 8 to 43 of a MATCH; slot `s` has `s / 4 - 1` extra bits. -/
theorem test_decode_matchSlots :
    (List.range 36).map (fun j => decode (ctx .mainSym (flat 312 9)) (toBits 9 (270 + j) ++ extra ((8 + j) / 4 - 1))) =
    (([.matchSlot8 0, .matchSlot9 0, .matchSlot10 0, .matchSlot11 0, .matchSlot12 2, .matchSlot13 2, .matchSlot14 2, .matchSlot15 2, .matchSlot16 6, .matchSlot17 6, .matchSlot18 6, .matchSlot19 6, .matchSlot20 14, .matchSlot21 14, .matchSlot22 14, .matchSlot23 14] : List Instr) ++
    ([.matchSlot24 30, .matchSlot25 30, .matchSlot26 30, .matchSlot27 30, .matchSlot28 62, .matchSlot29 62, .matchSlot30 62, .matchSlot31 62, .matchSlot32 126, .matchSlot33 126, .matchSlot34 126, .matchSlot35 126, .matchSlot36 254, .matchSlot37 254, .matchSlot38 254, .matchSlot39 254] : List Instr) ++
    ([.matchSlot40 510, .matchSlot41 510, .matchSlot42 510, .matchSlot43 510] : List Instr)).zipWith Decoded.ok ((List.range 36).map fun j => 9 + ((8 + j) / 4 - 1)) := by
  rfl

/-- R111: length slots 0 to 7. -/
theorem test_decode_lenSlots_short :
    (List.range 8).map (fun s => decode (ctx .lenSlot (flat 44 6)) (toBits 6 s)) =
    (([.lenSlot0, .lenSlot1, .lenSlot2, .lenSlot3, .lenSlot4, .lenSlot5, .lenSlot6, .lenSlot7] : List Instr)).map (Decoded.ok · 6) := by rfl

/-- R111: length slots 8 to 43. -/
theorem test_decode_lenSlots_long :
    (List.range 36).map (fun j => decode (ctx .lenSlot (flat 44 6)) (toBits 6 (8 + j) ++ extra ((8 + j) / 4 - 1))) =
    (([.lenSlot8 0, .lenSlot9 0, .lenSlot10 0, .lenSlot11 0, .lenSlot12 2, .lenSlot13 2, .lenSlot14 2, .lenSlot15 2, .lenSlot16 6, .lenSlot17 6, .lenSlot18 6, .lenSlot19 6, .lenSlot20 14, .lenSlot21 14, .lenSlot22 14, .lenSlot23 14] : List Instr) ++
    ([.lenSlot24 30, .lenSlot25 30, .lenSlot26 30, .lenSlot27 30, .lenSlot28 62, .lenSlot29 62, .lenSlot30 62, .lenSlot31 62, .lenSlot32 126, .lenSlot33 126, .lenSlot34 126, .lenSlot35 126, .lenSlot36 254, .lenSlot37 254, .lenSlot38 254, .lenSlot39 254] : List Instr) ++
    ([.lenSlot40 510, .lenSlot41 510, .lenSlot42 510, .lenSlot43 510] : List Instr)).zipWith Decoded.ok
      ((List.range 36).map fun j => 6 + ((8 + j) / 4 - 1)) := by rfl

/-- R112: distance slots 0 to 3 and 62 to 79, which have no field. -/
theorem test_decode_distSlots_bare :
    (List.range 4 ++ (List.range 18).map (62 + ·)).map (fun s => decode (ctx .distSlot (flat 80 7)) (toBits 7 s)) =
    (([.distSlot0, .distSlot1, .distSlot2, .distSlot3, .distSlot62, .distSlot63, .distSlot64, .distSlot65, .distSlot66, .distSlot67, .distSlot68, .distSlot69, .distSlot70, .distSlot71, .distSlot72, .distSlot73] : List Instr) ++
    ([.distSlot74, .distSlot75, .distSlot76, .distSlot77, .distSlot78, .distSlot79] : List Instr)).zipWith Decoded.ok (List.replicate 22 7) := by
  rfl

/-- R112: distance slots 4 to 9, which have 1, 2 or 3 raw bits. -/
theorem test_decode_distSlots_low :
    (List.range 6).map (fun j => decode (ctx .distSlot (flat 80 7)) (toBits 7 (4 + j) ++ extra (j / 2 + 1))) =
    (([.distSlot4 0, .distSlot5 0, .distSlot6 2, .distSlot7 2, .distSlot8 6, .distSlot9 6] : List Instr)).zipWith Decoded.ok [8, 8, 9, 9, 10, 10] := by rfl

/-- R112, R234: distance slots 10 to 61: the high bits first, then four raw low bits. -/
theorem test_decode_distSlots_raw :
    (List.range 52).map (fun j => decode (ctx .distSlot (flat 80 7))
      (toBits 7 (10 + j) ++ extra (j / 2) ++ [true, false, false, true])) =
    (([.distSlot10 9, .distSlot11 9, .distSlot12 0 9, .distSlot13 0 9, .distSlot14 2 9, .distSlot15 2 9, .distSlot16 6 9, .distSlot17 6 9, .distSlot18 14 9, .distSlot19 14 9, .distSlot20 30 9, .distSlot21 30 9, .distSlot22 62 9, .distSlot23 62 9, .distSlot24 126 9, .distSlot25 126 9] : List Instr) ++
    ([.distSlot26 254 9, .distSlot27 254 9, .distSlot28 510 9, .distSlot29 510 9, .distSlot30 1022 9, .distSlot31 1022 9, .distSlot32 2046 9, .distSlot33 2046 9, .distSlot34 4094 9, .distSlot35 4094 9, .distSlot36 8190 9, .distSlot37 8190 9, .distSlot38 16382 9, .distSlot39 16382 9, .distSlot40 32766 9, .distSlot41 32766 9] : List Instr) ++
    ([.distSlot42 65534 9, .distSlot43 65534 9, .distSlot44 131070 9, .distSlot45 131070 9, .distSlot46 262142 9, .distSlot47 262142 9, .distSlot48 524286 9, .distSlot49 524286 9, .distSlot50 1048574 9, .distSlot51 1048574 9, .distSlot52 2097150 9, .distSlot53 2097150 9, .distSlot54 4194302 9, .distSlot55 4194302 9, .distSlot56 8388606 9, .distSlot57 8388606 9] : List Instr) ++
    ([.distSlot58 16777214 9, .distSlot59 16777214 9, .distSlot60 33554430 9, .distSlot61 33554430 9] : List Instr)).zipWith Decoded.ok
      ((List.range 52).map fun j => 7 + j / 2 + 4) := by rfl

/-- R112, R234: the low four bits as an align symbol: the code word `110` of symbol 2 in lengths `[1, 2, 3, 3]` plus zeros. -/
theorem test_decode_align :
    decode { fmt := .distSlot, sym := flat 80 7, align := some (Huff.ofLens 0 ([1, 2, 3, 3] ++ List.replicate 12 0)) }
      (toBits 7 12 ++ [true] ++ [true, true, false]) = .ok (.distSlot12 1 2) 11 := by rfl

/-- R116: the four selectors; the bytes are read most significant bit first, the first byte being the least significant. -/
theorem test_decode_vu32 :
    [toBits 2 0 ++ toBits 8 0x10, toBits 2 1 ++ bitsOf [0x10, 0x00], toBits 2 2 ++ bitsOf [1, 2, 3], toBits 2 3 ++ bitsOf [1, 2, 3, 4]].map
      (decode (ctx .vuSel default)) =
    [.ok (.vu32Sel0 0x10) 10, .ok (.vu32Sel1 0x10 0x00) 18, .ok (.vu32Sel2 1 2 3) 26, .ok (.vu32Sel3 1 2 3 4) 34] := by rfl

/-- R115, R117: the eight types; only DELTA carries channels. -/
theorem test_decode_filterType :
    (List.range 8).map (fun t => decode (ctx .filterType default) (toBits 3 t ++ toBits 5 3)) =
    [.ok (.typeDelta 3) 8, .ok .typeE8 3, .ok .typeE8E9 3, .ok .typeArm 3, .ok .type4 3, .ok .type5 3, .ok .type6 3, .ok .type7 3] := by
  rfl

/-- R117, R12: with DELTA at code 7 and E8 at code 0 the raw code 7 carries channels, and codes 1 and 4 to 6 name no filter. -/
theorem test_decode_filterType_codes :
    (List.range 8).map (fun t => decode { ctx .filterType default with params := { Config.params with typeDelta := 7, typeE8 := 0 } }
      (toBits 3 t ++ toBits 5 3)) =
    [.ok .typeE8 3, .ok .type4 3, .ok .typeE8E9 3, .ok .typeArm 3, .ok .type5 3, .ok .type6 3, .ok .type7 3, .ok (.typeDelta 3) 8] := by
  rfl

/-- R180, R132: an empty decoder and a value above every code are rejected by name. -/
theorem test_decode_rejects :
    decode (ctx .mainSym (Huff.ofLens 0 [0, 0])) [true] = .rejected .emptyDecoder 0 ∧
    decode (ctx .mainSym (Huff.ofLens 0 [1, 2])) [true, true] = .rejected .noCode 0 ∧
    decode { fmt := .distSlot, sym := flat 80 7, align := some (Huff.ofLens 0 [0]) } (toBits 7 12 ++ [true]) =
      .rejected .emptyDecoder 8 := ⟨rfl, rfl, rfl⟩
/-! The bit reader (95_test_vectors.md 3.1). -/

/-- The input `A5 3C F0` at a position. -/
def at3 (p : Nat) : State := { State.reset with src := { bytes := bytes [0xA5, 0x3C, 0xF0], ioAt := none }, pc := p }

theorem test_readBits_values :
    [readBits (at3 0) 3, readBits (at3 3) 5, readBits9 (at3 8) 9, readBits9Fix (at3 24) 4, readBitsBig (at3 8) 9].map
      (fun r => (r.1, r.2.pc)) = [(5, 3), (5, 8), (121, 17), (15, 28), (121, 17)] := by decide +kernel

theorem test_getValue_values :
    getValue (at3 3) 5 = 5 ∧ getValue (at3 17) 15 = 0x70FF ∧
    getValue { at3 4 with src := { bytes := bytes [0x12, 0x34, 0x56, 0x78, 0x9A], ioAt := none } } 17 = 0x0468A := by decide +kernel

theorem test_alignToByte_records_padding :
    (alignToByte (at3 17)).pc = 24 ∧ (alignToByte (at3 17)).minorError = true ∧ (alignToByte (at3 20)).minorError = false := by decide +kernel

theorem test_alignToByte_on_boundary : alignToByte (at3 16) = at3 16 := rfl

/-- R151, R142: the position 28 lies beyond the end of three bytes; `prepare` has found the end. -/
theorem test_inputEofError_past_end :
    (okOf (prepare (at3 28))).map (fun s => (s.wasFinished, s.inputEofError)) = some (true, true) ∧
    (okOf (prepare (at3 24))).map (fun s => (s.wasFinished, s.inputEofError)) = some (true, false) := by decide +kernel

/-! The Huffman unit (95_test_vectors.md 3.2). -/

theorem test_huffman_codes :
    [0, 1, 2, 3].map (Huff.ofLens 0 [2, 1, 3, 3]).codeBits = [[true, false], [false], [true, true, false], [true, true, true]] ∧
    [0, 1, 2, 3, 4].map (Huff.ofLens 0 [3, 3, 2, 2, 2]).codeBits =
      [[true, true, false], [true, true, true], [false, false], [false, true], [true, false]] := by decide +kernel

theorem test_huffman_decode_sequence :
    [[false, true, false, true, true, false, true, true, true, false], [true, false, true, true, false, true, true, true, false],
      [true, true, false, true, true, true, false], [true, true, true, false], [false]].map
      (fun b => ((Huff.ofLens 0 [2, 1, 3, 3]).decodeBits b).toOption) =
    [some (1, 1), some (0, 2), some (2, 3), some (3, 3), some (1, 1)] := by decide +kernel

theorem test_huffman_long_codes :
    [[0xFF, 0xFC], [0xFF, 0xFE]].map
      (fun b => ((Huff.ofLens 0 [1, 2, 3, 4, 5, 6, 7, 8, 9, 10, 11, 12, 13, 14, 15, 15]).decodeBits (bitsOf b)).toOption) =
    [some (14, 15), some (15, 15)] := by decide +kernel

theorem test_buildAccepts_by_kraft_sum :
    [[1, 1], [0, 0, 0, 0], [1, 0], [1, 1, 1], [2, 2, 2, 2], [2, 2, 2], [1, 2, 3, 3], [1, 2, 3, 4], [1, 2, 3, 3, 15]].map
      (buildAccepts .fullOrEmpty) = [true, true, false, false, true, false, true, false, false] := by decide +kernel

theorem test_twoLevel_lookup_agrees :
    [0, 0x3FFF, 0x4000, 0x5FFF, 0x6000, 0x7000, 0x7FFF].map (fun v => ((Huff.ofLens 2 [2, 1, 3, 3]).decodeTwoLevel 2 v).toOption) =
    [some (1, 1), some (1, 1), some (0, 2), some (0, 2), some (2, 3), some (3, 3), some (3, 3)] := by decide +kernel

/-! Block headers (95_test_vectors.md 3.3): the header stands at byte 0. -/

/-- What a header commits: `blockEnd`, `blockEndBits7`, `minorError`, `isLastBlock`, and the phase after it. -/
def headerResult (header : List Nat) (filled : Bool) : Option (Nat × Nat × Bool × Bool × Phase × List Result) :=
  (nextOf (step { base with
    phase := .header, tablesFilled := filled, src := { bytes := bytes header, ioAt := none } })).map
    fun t => (t.blockEnd, t.blockEndBits7, t.minorError, t.isLastBlock, t.phase, t.status)

theorem test_header_vectors :
    [[0xC6, 0x94, 0x08], [0x47, 0x1D, 0x00], [0x40, 0x1A, 0x00], [0x07, 0x5C, 0x01], [0x00, 0x5B, 0x01], [0x8F, 0xF3, 0x34, 0x12], [0x57, 0x0C, 0x00, 0x00, 0x01], [0x27, 0x7F, 0x02]].map
      (headerResult · true) =
    [some (10, 7, false, true, .levelNib, []),
      some (3, 0, false, true, .symbols, []),
      some (3, 1, true, true, .symbols, []),
      some (4, 0, false, false, .symbols, []),
      some (3, 1, false, false, .symbols, []),
      some (4664, 0, false, false, .levelNib, []),
      some (65541, 0, false, true, .symbols, []),
      some (5, 0, false, false, .symbols, [])] := by rfl

/-- A wrong checksum, three size bytes, and no tables where none are filled; only the last commits the block's end. -/
theorem test_header_errors :
    [([0xC6, 0x95, 0x08], true), ([0x58, 0x00], true), ([0x46, 0x1D, 0x01, 0x00], false)].map (fun h => headerResult h.1 h.2) =
    [some (3, 0, false, false, .idle, [.error .corruptedData]), some (3, 0, false, false, .idle, [.error .corruptedData]),
      some (3, 7, false, true, .idle, [.error .corruptedData])] := by rfl

/-! Table transmission (95_test_vectors.md 3.4). -/

/-- The level lengths after one step of a nibble instruction. -/
def levelsAfter (i : Instr) (lv : List Nat) : Option (List Nat) := (nextOf (exec i { base with phase := .levelNib, lv := lv })).map (·.lv)

theorem test_levelNibbles_append :
    [.lvlNib0, .lvlNib1, .lvlNib2, .lvlNib3, .lvlNib4, .lvlNib5, .lvlNib6, .lvlNib7, .lvlNib8, .lvlNib9, .lvlNib10, .lvlNib11, .lvlNib12,
      .lvlNib13, .lvlNib14, .lvlNib15].map (levelsAfter · [9]) = (List.range 16).map fun n => some [9, n] := by decide +kernel

/-- R201: `15 n` is `n + 2` zeros; a run is cut at the twentieth length. -/
theorem test_levelRuns_append :
    [.lvlZrun1, .lvlZrun2, .lvlZrun3, .lvlZrun4, .lvlZrun5, .lvlZrun6, .lvlZrun7, .lvlZrun8, .lvlZrun9, .lvlZrun10, .lvlZrun11, .lvlZrun12,
      .lvlZrun13, .lvlZrun14, .lvlZrun15].map (levelsAfter · [9]) = (List.range 15).map (fun n => some (9 :: List.replicate (n + 3) 0)) ∧
    levelsAfter .lvlZrun15 (List.replicate 18 3) = some (List.replicate 18 3 ++ [0, 0]) := by decide +kernel

theorem test_levelEscape_awaits_second_nibble :
    (nextOf (exec .lvlEsc { base with phase := .levelNib, lv := [1] })).map (fun t => (t.lv, t.phase)) = some ([1], .levelNib2) := by decide +kernel

/-- The table lengths that a level symbol appends at index 10, the entry before being 5. -/
def lengthsAppended (i : Instr) (before : List Nat) : Option (List Nat) :=
  (nextOf (exec i { base with phase := .levelSym, tbl := before })).map (·.tbl.drop before.length)

theorem test_levelSymbols_append :
    [.lvLen0, .lvLen1, .lvLen2, .lvLen3, .lvLen4, .lvLen5, .lvLen6, .lvLen7, .lvLen8, .lvLen9, .lvLen10, .lvLen11, .lvLen12, .lvLen13,
      .lvLen14, .lvLen15].map (lengthsAppended · [5]) = (List.range 16).map fun n => some [n] := by decide +kernel

theorem test_runSymbols_append :
    [.lvRepS 0, .lvRepS 7, .lvRepL 0, .lvRepL 127, .lvZeroS 0, .lvZeroS 7, .lvZeroL 0, .lvZeroL 127].map
      (lengthsAppended · (List.replicate 9 1 ++ [5])) =
    [some (List.replicate 3 5), some (List.replicate 10 5), some (List.replicate 7 5), some (List.replicate 134 5),
      some (List.replicate 3 0), some (List.replicate 10 0), some (List.replicate 7 0), some (List.replicate 134 0)] := by decide +kernel

/-- R204: a run is cut at the table's end, which is 436 for v6 and 452 for v7; a repeat at index 0 is corrupt. -/
theorem test_runSymbols_at_ends :
    lengthsAppended (.lvRepL 127) (List.replicate 430 2) = some (List.replicate 6 2) ∧
    (nextOf (exec (.lvZeroL 127) { base with phase := .levelSym, props := 2, tbl := List.replicate 430 2 })).map (·.tbl.length) = some 452 ∧
    (nextOf (exec (.lvRepS 0) { base with phase := .levelSym, tbl := [] })).map (·.status) = some [.error .corruptedData] := by decide +kernel

/-! Length and distance slots (95_test_vectors.md 3.5, 3.6). -/

theorem test_slotToLen_ranges :
    (List.range 44).map (fun s => Operands.slotToLen s 0) =
    [2, 3, 4, 5, 6, 7, 8, 9, 10, 12, 14, 16, 18, 22, 26, 30, 34, 42, 50, 58, 66, 82, 98, 114,
      130, 162, 194, 226, 258, 322, 386, 450, 514, 642, 770, 898, 1026, 1282, 1538, 1794, 2050, 2562, 3074, 3586] ∧
    (List.range 44).map (fun s => Operands.slotToLen s (2 ^ Operands.lenExtraBits s - 1)) =
    [2, 3, 4, 5, 6, 7, 8, 9, 11, 13, 15, 17, 21, 25, 29, 33, 41, 49, 57, 65, 81, 97, 113, 129,
      161, 193, 225, 257, 321, 385, 449, 513, 641, 769, 897, 1025, 1281, 1537, 1793, 2049, 2561, 3073, 3585, 4097] := by decide +kernel

theorem test_slotToDist_ranges :
    (List.range 62).map (fun d => Operands.slotToDist d 0) =
    [1, 2, 3, 4, 5, 7, 9, 13, 17, 25, 33, 49, 65, 97, 129, 193,
      257, 385, 513, 769, 1025, 1537, 2049, 3073, 4097, 6145, 8193, 12289, 16385, 24577, 32769, 49153,
      65537, 98305, 131073, 196609, 262145, 393217, 524289, 786433, 1048577, 1572865, 2097153, 3145729, 4194305, 6291457, 8388609, 12582913,
      16777217, 25165825, 33554433, 50331649, 67108865, 100663297, 134217729, 201326593, 268435457, 402653185, 536870913, 805306369, 1073741825, 1610612737] ∧
    (List.range 62).map (fun d => Operands.slotToDist d (2 ^ Operands.distNumBits d - 1)) =
    [1, 2, 3, 4, 6, 8, 12, 16, 24, 32, 48, 64, 96, 128, 192, 256,
      384, 512, 768, 1024, 1536, 2048, 3072, 4096, 6144, 8192, 12288, 16384, 24576, 32768, 49152, 65536,
      98304, 131072, 196608, 262144, 393216, 524288, 786432, 1048576, 1572864, 2097152, 3145728, 4194304, 6291456, 8388608, 12582912, 16777216,
      25165824, 33554432, 50331648, 67108864, 100663296, 134217728, 201326592, 268435456, 402653184, 536870912, 805306368, 1073741824, 1610612736, 2147483648] ∧
    (List.range 18).map (fun j => Operands.slotToDist (62 + j) 0) = List.replicate 18 0xFFFFFFFE := by decide +kernel

theorem test_lenPlus_values :
    (List.range 80).map (Operands.lenPlus Config.params) =
    [0, 0, 0, 0, 0, 0, 0, 0, 0, 0, 0, 0, 0, 0, 0, 0, 1, 1, 1, 1, 1, 1, 1, 1, 1, 1, 2, 2, 2, 2, 2, 2,
      2, 2, 2, 2, 3, 3, 3, 3, 3, 3, 3, 3, 3, 3, 3, 3, 3, 3, 3, 3, 3, 3, 3, 3, 3, 3, 3, 3, 3, 3] ++ List.replicate 18 0 := by decide +kernel

/-! The symbol loop's elements (95_test_vectors.md 3.7, with a window of 320 bytes that hold their index). -/

/-- `repDist = [10, 20, 30, 40]`, `lastLength = 7`, 310 bytes in a window of 320. -/
def reps : State :=
  { base with
    windowSize := 320, dictSizeForCheck := 320, limit := 320, windowPos := 310, window := win 310
    repDist := ⟨10, 20, 30, 40⟩, lastLength := 7 }

/-- The registers after an instruction, `repDist`, `lastLength` and the cursor; the first byte it produced; and the phase. -/
def registersAfter (i : Instr) (s : State) : Option (List Nat × Option Byte × Phase) :=
  (nextOf (exec i s)).map fun t =>
    ([t.repDist.r0.toNat, t.repDist.r1.toNat, t.repDist.r2.toNat, t.repDist.r3.toNat, t.lastLength, t.windowPos],
      t.window.read s.windowPos, t.phase)

theorem test_lastlen : registersAfter .lastlen reps = some ([10, 20, 30, 40, 7, 317], some 44, .symbols) := by decide +kernel

/-- R239, vector E15: without a length before it, `LASTLEN` does nothing. -/
theorem test_lastlen_without_length : nextOf (exec .lastlen { reps with lastLength := 0 }) = some { reps with lastLength := 0 } := rfl

theorem test_rep_permutes :
    [.rep0, .rep1, .rep2, .rep3].map (registersAfter · reps) =
    [some ([10, 20, 30, 40, 7, 310], none, .lenSlot), some ([20, 10, 30, 40, 7, 310], none, .lenSlot),
      some ([30, 10, 20, 40, 7, 310], none, .lenSlot), some ([40, 10, 20, 30, 7, 310], none, .lenSlot)] := by decide +kernel

/-- The second half of `REP1 5` and of `REP3 5`. -/
theorem test_rep_copies :
    registersAfter .lenSlot3 { reps with phase := .lenSlot, repDist := ⟨20, 10, 30, 40⟩ } =
      some ([20, 10, 30, 40, 5, 315], some 34, .symbols) ∧
    registersAfter .lenSlot3 { reps with phase := .lenSlot, repDist := ⟨40, 10, 20, 30⟩ } =
      some ([40, 10, 20, 30, 5, 315], some 14, .symbols) := by decide +kernel

theorem test_match_length : (nextOf (exec .matchSlot3 reps)).map (fun t => (t.pendLen, t.phase, t.lastLength)) = some (5, .distSlot, 7) := by decide +kernel

/-- `MATCH 5, 50`; `MATCH 5, 300`, whose width adds 1 to the length; `MATCH 5, 10`. -/
theorem test_match_copies :
    [.distSlot11 1, .distSlot16 2 11, .distSlot6 1].map (registersAfter · { reps with phase := .distSlot, pendLen := 5 }) =
    [some ([50, 10, 20, 30, 5, 315], some 4, .symbols), some ([300, 10, 20, 30, 6, 316], some 10, .symbols),
      some ([10, 10, 20, 30, 5, 315], some 44, .symbols)] := by decide +kernel

/-- Every length slot by the length it gives a match. -/
theorem test_matchSlots_lengths :
    ([.matchSlot0, .matchSlot7, .matchSlot8 0, .matchSlot8 1, .matchSlot11 1, .matchSlot12 3, .matchSlot35 124, .matchSlot43 511] : List Instr).map
      (fun i => (nextOf (exec i reps)).map (·.pendLen)) = [some 2, some 9, some 10, some 11, some 17, some 21, some 1022, some 4097] := by
  decide +kernel

/-- R237: the source is computed anew for every byte, so a match may overlap itself. -/
theorem test_copy_overlaps :
    (nextOf (exec .lenSlot1 { base with phase := .lenSlot, repDist := ⟨2, 0, 0, 0⟩ })).map
      (fun t => [16, 17, 18, 19].map t.window.read) = some [some 14, some 15, some 14, none] := by decide +kernel

/-- R237: beyond the cursor the source lies in the previous lap; a distance of the whole window reads the cursor's own old byte. -/
theorem test_copy_from_previous_lap :
    [(10 : Word32), 64].map (fun d => (nextOf (exec .lenSlot0
      { base with phase := .lenSlot, repDist := ⟨d, 0, 0, 0⟩, lzSize := 64, lzWritten := 64, windowPos := 4, window := win 64 })).map
      (fun t => [3, 4, 5, 6].map t.window.read)) =
    [some [some 3, some 58, some 59, some 6], some [some 3, some 4, some 5, some 6]] := by decide +kernel

theorem test_literal :
    (nextOf (exec (.lit 0xAB) base)).map (fun t => (t.windowPos, t.window.read 15, t.window.read 16, t.window.read 17)) =
      some (17, some 15, some 0xAB, none) := by decide +kernel

/-- R228, R235, R238: reserved symbols, sentinel distances, and distances beyond the start or the dictionary; what was produced before is
flushed. -/
theorem test_invalid_symbols_and_distances :
    [(Instr.reserved306, base), (.reserved307, base), (.reserved308, base), (.reserved309, base), (.reserved310, base), (.reserved311, base),
      (.distSlot62, { base with phase := .distSlot, pendLen := 2 }), (.distSlot79, { base with phase := .distSlot, pendLen := 2 }),
      (.lenSlot0, { base with phase := .lenSlot, repDist := ⟨17, 0, 0, 0⟩ }),
      (.lenSlot0, { base with phase := .lenSlot, repDist := ⟨65, 0, 0, 0⟩, lzSize := 64, lzWritten := 64, window := win 64 }),
      (.lastlen, { base with repDist := ⟨17, 0, 0, 0⟩ })].map
      (fun p => (nextOf (exec p.1 p.2)).map (fun t => (t.status, t.phase, t.snk.bytes.length, t.chainValid))) =
    List.replicate 11 (some ([.error .corruptedData], .idle, 16, false)) := by decide +kernel

/-! Filter descriptors (R261 to R268). -/

/-- R116: the first byte is the least significant. -/
theorem test_vu32_stores :
    [(Instr.vu32Sel0 0x10), .vu32Sel1 0x10 0x01, .vu32Sel2 1 2 3, .vu32Sel3 1 2 3 4].map
      (fun i => (nextOf (exec i { base with phase := .vuSize })).map (fun t => (t.fltSize, t.phase))) =
    [some (0x10, .filterType), some (0x0110, .filterType), some (0x030201, .filterType), some (0x04030201, .filterType)] ∧
    (nextOf (exec (.vu32Sel0 7) { base with phase := .vuDelta })).map (fun t => (t.fltDelta, t.phase)) = some (7, .vuSize) := by decide +kernel

/-- A descriptor of the size and place given is registered: the queue's last entry, `filterEnd` and the flag. -/
def registered (i : Instr) (delta size : Word32) : Option (Option FilterEntry × Nat × Bool) :=
  (nextOf (exec i { base with phase := .filterType, fltDelta := delta, fltSize := size, filterEnd := 20 })).map
    fun t => (t.queue.getLast?, t.filterEnd, t.isUnsupportedFilter)

theorem test_filterTypes_register :
    [(Instr.typeDelta 31), .typeE8, .typeE8E9, .typeArm, .type4, .type5, .type6, .type7].map (registered · 4 8) =
    [some (some ⟨20, 8, 0, 32⟩, 28, false), some (some ⟨20, 8, 1, 0⟩, 28, false), some (some ⟨20, 8, 2, 0⟩, 28, false),
      some (some ⟨20, 8, 3, 0⟩, 28, false), some (some ⟨20, 8, 4, 0⟩, 28, false), some (some ⟨20, 8, 5, 0⟩, 28, false),
      some (some ⟨20, 8, 6, 0⟩, 28, false), some (some ⟨20, 8, 7, 0⟩, 28, false)] := by decide +kernel

/-- R264 to R266, R268: overlap, oversize, the largest size, an empty region. -/
theorem test_filter_fates :
    [registered .typeE8 3 8, registered .typeE8 4 0x400001, registered .typeE8 4 0x400000, registered .typeE8 4 0] =
    [some (none, 20, true), some (none, 20, true), some (some ⟨20, 0x400000, 1, 0⟩, 20 + 0x400000, false), some (none, 20, false)] := by
  decide +kernel

theorem test_filter_dispatch :
    (nextOf (exec .filter base)).map (fun t => (t.phase, t.windowPos, t.queue)) = some (.vuDelta, 16, []) := by decide +kernel

/-! Filter transforms (95_test_vectors.md 3.8). -/

/-- A region transformed. -/
def applied (type : BitVec 3) (channels fileOffset : Nat) (region : List Nat) : List Byte :=
  applyFilter Config.params ⟨0, region.length, type, channels⟩ fileOffset (bytes region)

theorem test_filter_delta_vectors :
    [applied 0 1 0 [0x01, 0x01, 0x01, 0x02, 0x02],
      applied 0 2 0 [0x01, 0x01, 0x01, 0x02, 0x02, 0x02],
      applied 0 3 0 [0x01, 0x02, 0x03, 0x04, 0x05, 0x06, 0x07],
      applied 0 32 0 [0x01, 0x02, 0x03]] =
    [[0xFF, 0xFE, 0xFD, 0xFB, 0xF9],
      [0xFF, 0xFE, 0xFE, 0xFC, 0xFD, 0xFA],
      [0xFF, 0xFC, 0xFA, 0xFD, 0xF7, 0xF3, 0xFA],
      [0xFF, 0xFE, 0xFD]].map bytes := by decide +kernel

theorem test_filter_e8_vectors :
    [applied 1 0 0x0 [0xE8, 0x05, 0x00, 0x00, 0x00, 0x90, 0x90, 0x90, 0x90, 0x90, 0x90, 0x90, 0x90, 0x90, 0x90, 0x90],
      applied 1 0 0x1000 [0xE8, 0x05, 0x10, 0x00, 0x00, 0x90, 0x90, 0x90, 0x90],
      applied 1 0 0x1000 [0xE8, 0xFF, 0xFF, 0xFF, 0xFF, 0x90, 0x90, 0x90, 0x90],
      applied 1 0 0x1000 [0xE8, 0x00, 0x00, 0x00, 0x80, 0x90, 0x90, 0x90, 0x90],
      applied 1 0 0x0 [0xE8, 0x00, 0x00, 0x00, 0x01, 0x90, 0x90],
      applied 1 0 0x0 [0xE8, 0x03, 0x00, 0x00, 0x00, 0xE8, 0x05, 0x00, 0x00, 0x00, 0xAA],
      applied 1 0 0x0 [0xE8, 0xE8, 0x05, 0x00, 0x00, 0x00, 0x90, 0x90],
      applied 1 0 0x0 [0x90, 0xE8, 0x05, 0x00, 0x00, 0x00],
      applied 1 0 0x0 [0x90, 0x90, 0xE8, 0x05, 0x00, 0x00],
      applied 1 0 0x0 [0xE8, 0x05, 0x00, 0x00],
      applied 1 0 0x0 [0xE9, 0x10, 0x00, 0x00, 0x00, 0x00, 0x00],
      applied 2 0 0x0 [0xE9, 0x10, 0x00, 0x00, 0x00, 0x00, 0x00],
      applied 2 0 0xfffffe [0xE8, 0x05, 0x00, 0x00, 0x00, 0x90, 0x90]] =
    [[0xE8, 0x04, 0x00, 0x00, 0x00, 0x90, 0x90, 0x90, 0x90, 0x90, 0x90, 0x90, 0x90, 0x90, 0x90, 0x90],
      [0xE8, 0x04, 0x00, 0x00, 0x00, 0x90, 0x90, 0x90, 0x90],
      [0xE8, 0xFF, 0xFF, 0xFF, 0x00, 0x90, 0x90, 0x90, 0x90],
      [0xE8, 0x00, 0x00, 0x00, 0x80, 0x90, 0x90, 0x90, 0x90],
      [0xE8, 0x00, 0x00, 0x00, 0x01, 0x90, 0x90],
      [0xE8, 0x02, 0x00, 0x00, 0x00, 0xE8, 0xFF, 0xFF, 0xFF, 0xFF, 0xAA],
      [0xE8, 0xE7, 0x05, 0x00, 0x00, 0x00, 0x90, 0x90],
      [0x90, 0xE8, 0x03, 0x00, 0x00, 0x00],
      [0x90, 0x90, 0xE8, 0x05, 0x00, 0x00],
      [0xE8, 0x05, 0x00, 0x00],
      [0xE9, 0x10, 0x00, 0x00, 0x00, 0x00, 0x00],
      [0xE9, 0x0F, 0x00, 0x00, 0x00, 0x00, 0x00],
      [0xE8, 0x06, 0x00, 0x00, 0xFF, 0x90, 0x90]].map bytes := by decide +kernel

theorem test_filter_arm_and_unknown_vectors :
    [applied 3 0 0x100 [0x50, 0x00, 0x00, 0xEB],
      applied 3 0 0x0 [0x10, 0x00, 0x00, 0xEB, 0x10, 0x00, 0x00, 0xEB, 0x10, 0x00, 0x00, 0xEA, 0x10, 0x00],
      applied 3 0 0x8 [0x01, 0x00, 0x00, 0xEB],
      applied 5 0 0 [0x01, 0x02, 0x03, 0x04]] =
    [[0x10, 0x00, 0x00, 0xEB],
      [0x10, 0x00, 0x00, 0xEB, 0x0F, 0x00, 0x00, 0xEB, 0x10, 0x00, 0x00, 0xEA, 0x10, 0x00],
      [0xFF, 0xFF, 0xFF, 0xEB],
      [0x00, 0x00, 0x00, 0x00]].map bytes := by decide +kernel

/-! Properties (95_test_vectors.md 3.9): the window size, and none where they are rejected. -/

/-- The window size that a `PROPS` with the property bytes `w` leaves in a running file. -/
def windowOf (w : BitVec 16) : Option Nat :=
  match decode (ctx .props default) (toBits 16 w.toNat) with
  | .ok i _ => (nextOf (exec i State.reset)).bind fun t => if t.phase = .symbols then some t.windowSize else none
  | .rejected _ _ => none

theorem test_props_vectors :
    [0x0000, 0x00F8, 0x0100, 0x0180, 0x0603, 0xE1FF, 0x0E00, 0x0DF8, 0x0E08, 0x0F00, 0x1FF8].map windowOf =
    [some 262144, some 262144, some 262144, some 393216, some 8388608, some 516096, some 2147483648, some 2113929216, none, none, none] := by decide +kernel

/-! The output (R300 to R305) and the calls of CTRL. -/

/-- R301, program 6's variant: the clamp limits what is pushed, the count takes all. -/
theorem test_sinkWrite_clamps :
    (okOf (sinkWrite [1, 2, 3] { base with sizeDefined := true, unpackedSize := 5, writtenFileSize := 3 })).map
      (fun t => (t.snk.bytes, t.writtenFileSize)) = some ([1, 2], 6) := by decide +kernel

/-- R302: the plain bytes before a region, the region transformed (type 5 zeroes it), and the bytes after it. -/
theorem test_flush_with_filter :
    (okOf (flush { base with queue := [⟨2, 3, 5, 0⟩], filterEnd := 5 })).map
      (fun t => (t.snk.bytes, t.lzWritten, t.queue, t.fb, t.isUnsupportedFilter)) =
    some (bytes [0, 1, 0, 0, 0, 5, 6, 7, 8, 9, 10, 11, 12, 13, 14, 15], 16, [], [], true) := by rfl

/-- R302: a region that is not complete stays in the filter buffer. -/
theorem test_flush_collects :
    (okOf (flush { base with queue := [⟨14, 3, 1, 0⟩], filterEnd := 17 })).map (fun t => (t.snk.bytes.length, t.fb, t.queue.length)) =
    some (14, [14, 15], 1) := by decide +kernel

/-- R303: the tail moves to the start of the window. -/
theorem test_wrap_moves_tail :
    (okOf (wrap { base with windowSize := 14 })).map (fun t => (t.windowPos, t.lzSize, [0, 1, 2].map t.window.read)) =
    some (2, 14, [some 14, some 15, some 2]) := by decide +kernel

/-- R372, R58: a `reset` call clears the chain and the registers and leaves no window. -/
theorem test_reset_call :
    (nextOf (step { base with phase := .idle, ctrl := [.reset], chainValid := true })).map
      (fun t => (t.windowPos, t.lastLength, t.windowSize, t.dictSizeForCheck, t.window, t.chainValid, t.repDist, t.tablesFilled, t.ctrl)) =
    some (0, 0, 0, 0, [], false, RepDist.reset, false, []) := by rfl

/-- R290, R332, R40: rejected properties (`0F 01`, as a whole `decode` call) leave `pc` at 0, the property register loaded, and the window
as it was. -/
theorem test_props_rejected :
    (nextOf (step { base with
      phase := .idle, pc := 77, chainValid := true, snk := { bytes := [1], ioAt := none }
      ctrl := [.decode { DecodeArgs.none with props := 0x0F01 }] })).map
      (fun t => (t.status, t.pc, t.props, t.chainValid, t.snk.bytes, t.windowPos, t.windowSize, t.phase)) =
    some ([.error .corruptedData], 0, 0x0F01, false, [], 16, 64, .idle) := by rfl

/-- R142, R334: a `prepare` whose source fails ends the file with `Io`, what was produced before being flushed. -/
theorem test_source_error :
    [Phase.symbols, .header, .levelNib, .levelNib2, .levelSym, .vuDelta].map (fun p => (nextOf (step { base with
      phase := p, src := { bytes := bytes [0xA5, 0x3C, 0xF0], ioAt := some 3 } })).map fun t => (t.status, t.snk.bytes.length, t.phase)) =
    List.replicate 6 (some ([.error .io], 16, .idle)) := by rfl

/-- R301, R334, log 6: a sink that fails after 4 bytes ends the file with `Io`, having taken 4, and the chain is poisoned. -/
theorem test_sink_error :
    (nextOf (step { base with limit := 16, chainValid := true, snk := { bytes := [], ioAt := some 4 } })).map
      (fun t => (t.status, t.snk.bytes, t.chainValid, t.phase)) = some ([.error .io], bytes [0, 1, 2, 3], false, .idle) := by decide +kernel

/-! The parameters of R12 at their recorded alternatives. -/

/-- 95_test_vectors.md 3.4: with LEVEL_REP_BASE 3, 11, 3, 11 the counts of symbols 17 and 19 are 11 to 138; and 42_block_tables.md R203:
with MAIN_SIZE 306 a table set carries 430 or 446 lengths. -/
theorem test_params_tables :
    [Instr.lvRepL 0, .lvRepL 127, .lvZeroL 0, .lvZeroL 127].map (fun i => (nextOf (exec i { base with
      tbl := [5], params := { Config.params with levelRepBase := [3, 11, 3, 11] } })).map (·.tbl.length)) = [some 12, some 139, some 12, some 139] ∧
    { base with params := { Config.params with mainSize := 306 } }.tableTotal = 430 ∧
    { base with props := 2, params := { Config.params with mainSize := 306 } }.tableTotal = 446 := by decide +kernel

/-- R196 with BLOCK_END_BIAS 0: the header `C6 94 08` read at offset 0 ends its block one byte later than with 1. -/
theorem test_params_blockEnd :
    [0, 1].map (fun n => (nextOf (exec (.blkhdr0 6 false true true 0x94 0x08) { base with
      pc := 24, params := { Config.params with blockEndBias := n } })).map (·.blockEnd)) = [some 11, some 10] := by decide +kernel

/-- R262, R270, R275: with DELTA at code 7 and E8 at code 0, a DELTA is queued as 7 and run as one, and code 1 names no filter. -/
theorem test_params_filterTypes :
    let P := { Config.params with typeDelta := 7, typeE8 := 0 }
    [Instr.typeDelta 0, .typeE8, .type4, .type5].map (fun i => (nextOf (exec i { base with
      params := P, phase := .filterType, fltSize := 4 })).bind (·.queue.head?.map (·.type))) = [some 7, some 0, some 1, some 4] ∧
    applyFilter P ⟨0, 3, 7, 1⟩ 0 [1, 1, 1] = [0xFF, 0xFE, 0xFD] ∧ applyFilter P ⟨0, 3, 1, 0⟩ 0 [1, 1, 1] = [0, 0, 0] := by decide +kernel

/-- R306 with EOF_UNDEFINED_SIZE_RESULT at CorruptedData. -/
theorem test_params_eof :
    (finish true { base with params := { Config.params with eofUndefinedOk := false } }).status = [.error .corruptedData] ∧
    (finish true base).status = [.ok] := by decide +kernel

/-- R305, vectors E5 and E29: a declared size that was not reached, and a recorded minor error with nothing written. -/
theorem test_fileResult_errors :
    { base with sizeDefined := true, unpackedSize := 3, writtenFileSize := 2 }.fileResult Config.params false = .error .corruptedData ∧
    { base with minorError := true }.fileResult Config.params false = .error .corruptedData ∧
    { base with minorError := true, writtenFileSize := 1 }.fileResult Config.params false = .ok ∧
    { base with isUnsupportedFilter := true, fb := [1] }.fileResult Config.params false = .error .unsupportedFilter := by decide +kernel

/-- log 1, log 17: a table word placed where the next step fetches. -/
theorem test_withFetchWord_runs :
    (nextOf (step (State.reset.withFetchWord 16 306))).map (fun t => (t.pc, t.status)) = some (1, [.error .corruptedData]) ∧
    (nextOf (step (State.reset.withFetchWord 8 15))).map (fun t => (t.pc, t.lv)) = some (4, List.replicate 17 0) := by decide +kernel
/-! Witnesses: for each obligation with hypotheses, operands and states that meet them, clause by clause, at the edges of their ranges. -/

/-- An outcome that is a next state. -/
theorem exists_next {o : Host.Outcome State Fault Refusal} (h : (nextOf o).isSome = true) : ∃ t, o = .next t := by
  cases o with
  | next t => exact ⟨t, rfl⟩
  | _ => cases h

/-- An outcome that is a refusal. -/
theorem refused_of {o : Host.Outcome State Fault Refusal} {r : Refusal} (h : refusalIn o = some r) : o = .refused r := by
  cases o with
  | refused r' => cases h; rfl
  | _ => cases h

/-- An operation that goes through. -/
theorem exists_ok {x : Flow State} (h : (okOf x).isSome = true) : ∃ t, x = .ok t := by
  cases x with
  | ok t => exact ⟨t, rfl⟩
  | _ => cases h

/-- 32 zero bytes. -/
def zeros : Source := { bytes := List.replicate 32 0, ioAt := none }

/-- A state in its symbol loop, one bit before its block ends; symbol `s` of the main code is its nine bits' value. -/
def loop : State :=
  { base with src := zeros, huff := { State.reset.huff with main := flat 312 9, len := flat 44 6 }, pc := 23, blockEnd := 3 }

/-- Two filters wait: the region from 4 to 12 and, right behind it, the one from 12 to 14. -/
def filtering : State := { base with queue := [⟨4, 8, 1, 0⟩, ⟨12, 2, 0, 1⟩], filterEnd := 14 }

theorem base_flushable : base.flushable := ⟨by decide, by decide, by decide +kernel⟩

theorem base_windowFilled : base.windowFilled := ⟨by decide +kernel, fun h => absurd rfl h⟩

theorem reps_windowFilled : reps.windowFilled := ⟨by decide +kernel, fun h => absurd rfl h⟩

theorem witness_ResetCallMakesFullReset : ∃ s : State, s.phase = .idle ∧ s.ctrl = .reset :: [] :=
  ⟨{ base with phase := .idle, ctrl := [.reset] }, rfl, rfl⟩

theorem witness_IdleKeepsState : State.reset.phase = .idle ∧ State.reset.ctrl = [] := ⟨rfl, rfl⟩

/-- `loop` in another phase, with an align code of its own in use, one level length short of the end and a level code of 20 words. -/
def reading (p : Phase) : State :=
  { loop with
    phase := p, useAlignBits := true, lv := List.replicate 19 0, tbl := List.replicate 435 0, level := flat 20 5
    huff := { loop.huff with dist := flat 80 7, align := flat 16 4 } }

/-- What the bits at a state's position are decoded as, in a context of the format and the code given and the state's align code. -/
def readIn (f : Format) (H : Huff) (s : State) : Decoded :=
  decode { fmt := f, sym := H, align := if s.useAlignBits then some s.huff.align else none, params := s.params }
    ((List.range 64).map fun j => s.bitAt (s.pc + j))

/-- Between transactions, in the symbol loop, and inside an element. -/
theorem witness_StepRunsDecodedInstruction :
    (∃ s s' i, s.phase = .idle ∧ before s = .go s' ∧ fetch s' = .ok i 16) ∧
    (∃ s', before loop = .go s' ∧ fetch s' = .ok (.lit 0) 9) ∧
    (∃ s', before { loop with phase := .lenSlot } = .go s' ∧ fetch s' = .ok .lenSlot0 6) :=
  ⟨⟨{ State.reset with ctrl := [.decode DecodeArgs.none] }, { State.reset with port := DecodeArgs.none },
      .props 0 0 0 false false false, rfl, rfl, rfl⟩,
    ⟨{ loop with wasFinished := false }, rfl, rfl⟩, ⟨{ loop with phase := .lenSlot }, rfl, rfl⟩⟩

/-- The same statement's clauses, phase by phase: the input is zeros, one length is missing, and the header begins in the last bit of a
byte. -/
theorem witness_StepRunsDecodedInstruction_phases :
    (∃ s : State, s.phase = .idle ∧ s.ctrl = .decode DecodeArgs.none :: [] ∧
      decode (ctx .props default) (toBits 16 DecodeArgs.none.props.toNat) = .ok (.props 0 0 0 false false false) 16) ∧
    readIn .lenSlot (reading .lenSlot).huff.len (reading .lenSlot) = .ok .lenSlot0 6 ∧
    readIn .distSlot (reading .distSlot).huff.dist (reading .distSlot) = .ok .distSlot0 7 ∧
    readIn .vuSel default (reading .vuSize) = .ok (.vu32Sel0 0) 10 ∧
    readIn .filterType default (reading .filterType) = .ok (.typeDelta 0) 8 ∧
    (∀ p, (reading p).sourceFails = false) ∧
    readIn .vuSel default (reading .vuDelta) = .ok (.vu32Sel0 0) 10 ∧
    readIn .blockFlags default (alignToByte (reading .header)) = .ok (.blkhdr0 0 false false false 0 0) 24 ∧
    ((reading .levelNib).lv.length < 20 ∧ readIn .levelNib default (reading .levelNib) = .ok .lvlNib0 4) ∧
    readIn .levelNib2 default (reading .levelNib2) = .ok .lvlNib15 4 ∧
    ((reading .levelSym).tbl.length < (reading .levelSym).params.mainSize + (if (reading .levelSym).props.getLsbD 1 then 140 else 124) ∧
      ¬(8 * (reading .levelSym).blockEnd + (reading .levelSym).blockEndBits7 < (reading .levelSym).pc ∨
        ((reading .levelSym).wasFinished = true ∧ 8 * (reading .levelSym).src.bytes.length < (reading .levelSym).pc)) ∧
      readIn .levelSym (reading .levelSym).level (reading .levelSym) = .ok .lvLen0 5) :=
  ⟨⟨{ State.reset with ctrl := [.decode DecodeArgs.none] }, rfl, rfl, rfl⟩, rfl, rfl, rfl, rfl, fun _ => rfl, rfl, rfl, ⟨by decide, rfl⟩, rfl,
    by decide +kernel, by decide, rfl⟩

/-- R234, R244: with `useAlignBits` set the low four bits are the align symbol of the align code, 2 in the word `110` of lengths
`[1, 2, 3, 3]`; without it they are the four bits. The input is `19 C0`: the word of slot 12, one high bit, and then `1100`; the distance is 64 + 16 + 2 + 1 or 64 + 16 + 12 + 1. -/
theorem test_step_reads_align :
    [true, false].map (fun u => (nextOf (step { base with
      phase := .distSlot, useAlignBits := u, pendLen := 2, src := { bytes := bytes [0x19, 0xC0], ioAt := none }
      windowPos := 200, window := win 200, windowSize := 320, dictSizeForCheck := 320
      huff := { State.reset.huff with dist := flat 80 7, align := Huff.ofLens 0 ([1, 2, 3, 3] ++ List.replicate 12 0) } })).map
        fun t => (t.repDist.r0.toNat, t.pc)) = [some (83, 11), some (93, 12)] := by decide +kernel

theorem witness_SymbolLoopRunsMainSymbol :
    ∃ s1 : State, loop.phase = .symbols ∧ ¬(loop.sizeDefined = true ∧ loop.lzEnd ≤ loop.lzSize + loop.windowPos) ∧
      loop.windowPos < loop.limit ∧ loop.sourceFails = false ∧
      s1 = { loop with
        wasFinished := loop.wasFinished || (loop.src.ioAt.isNone && decide (loop.src.bytes.length < loop.pc / 8 + 16)) } ∧
      ¬(s1.wasFinished = true ∧ 8 * loop.src.bytes.length < loop.pc) ∧ loop.pc < 8 * loop.blockEnd + loop.blockEndBits7 ∧
      decode { fmt := .mainSym, sym := loop.huff.main, align := if loop.useAlignBits then some loop.huff.align else none,
               params := loop.params }
        ((List.range 64).map fun j => loop.bitAt (loop.pc + j)) = .ok (.lit 0) 9 :=
  ⟨_, rfl, by decide, by decide, rfl, rfl, by decide, by decide, rfl⟩

/-- The declared size is just reached; the cursor is just at the limit. -/
theorem witness_WriteStepEndsWithFlushAndWrap :
    (∃ s u v : State, s.phase = .symbols ∧ (s.sizeDefined = true ∧ s.lzEnd ≤ s.lzSize + s.windowPos) ∧ flush s = .ok u ∧ wrap u = .ok v) ∧
    (∃ s u v : State, s.phase = .symbols ∧ s.limit ≤ s.windowPos ∧ flush s = .ok u ∧ wrap u = .ok v) := by
  refine ⟨⟨{ base with sizeDefined := true, unpackedSize := 16, lzEnd := 16 }, ?_⟩, ⟨{ base with limit := 16 }, ?_⟩⟩
  · obtain ⟨u, hu⟩ := exists_ok (x := flush { base with sizeDefined := true, unpackedSize := 16, lzEnd := 16 }) (by decide +kernel)
    obtain ⟨v, hv⟩ := exists_ok (x := (flush { base with sizeDefined := true, unpackedSize := 16, lzEnd := 16 }).bind wrap) (by decide +kernel)
    exact ⟨u, v, rfl, by decide, hu, by simpa only [hu, Flow.bind] using hv⟩
  · obtain ⟨u, hu⟩ := exists_ok (x := flush { base with limit := 16 }) (by decide +kernel)
    obtain ⟨v, hv⟩ := exists_ok (x := (flush { base with limit := 16 }).bind wrap) (by decide +kernel)
    exact ⟨u, v, rfl, by decide, hu, by simpa only [hu, Flow.bind] using hv⟩

/-- The four clauses: one bit past the input's end; one bit past the block's end; at the end of the last block; at another's. -/
theorem witness_InputEndAndBlockEndTests :
    (∃ s u v : State, s.phase = .symbols ∧ ¬(s.sizeDefined = true ∧ s.lzEnd ≤ s.lzSize + s.windowPos) ∧ s.windowPos < s.limit ∧
      s.sourceFails = false ∧ s.wasFinished = true ∧ 8 * s.src.bytes.length < s.pc ∧ flush s = .ok u ∧ wrap u = .ok v) ∧
    (∃ s : State, s.phase = .symbols ∧ ¬(s.sizeDefined = true ∧ s.lzEnd ≤ s.lzSize + s.windowPos) ∧ s.windowPos < s.limit ∧
      s.sourceFails = false ∧ s.pc ≤ 8 * s.src.bytes.length ∧ 8 * s.blockEnd + s.blockEndBits7 < s.pc ∧ s.flushable) ∧
    (∃ s u v : State, s.phase = .symbols ∧ s.pc ≤ 8 * s.src.bytes.length ∧ s.pc = 8 * s.blockEnd + s.blockEndBits7 ∧
      s.isLastBlock = true ∧ s.sourceFails = false ∧ s.windowPos < s.limit ∧ flush (alignToByte s) = .ok u ∧ wrap u = .ok v) ∧
    (∃ s : State, s.phase = .symbols ∧ s.pc ≤ 8 * s.src.bytes.length ∧ s.pc = 8 * s.blockEnd + s.blockEndBits7 ∧
      s.isLastBlock = false ∧ s.sourceFails = false ∧ s.windowPos < s.limit) := by
  refine ⟨⟨{ base with wasFinished := true, pc := 25 }, ?_⟩,
    ⟨{ base with pc := 24, blockEnd := 2, blockEndBits7 := 7 }, rfl, by decide, by decide, rfl, by decide, by decide,
      ⟨base_flushable.lap, base_flushable.regions, base_flushable.bytes⟩⟩,
    ⟨{ base with pc := 23, blockEnd := 2, blockEndBits7 := 7, isLastBlock := true }, ?_⟩,
    ⟨{ base with pc := 23, blockEnd := 2, blockEndBits7 := 7 }, rfl, by decide, by decide, rfl, rfl, by decide⟩⟩
  · obtain ⟨u, hu⟩ := exists_ok (x := flush { base with wasFinished := true, pc := 25 }) (by decide +kernel)
    obtain ⟨v, hv⟩ := exists_ok (x := (flush { base with wasFinished := true, pc := 25 }).bind wrap) (by decide +kernel)
    exact ⟨u, v, rfl, by decide, by decide, rfl, rfl, by decide, hu, by simpa only [hu, Flow.bind] using hv⟩
  · obtain ⟨u, hu⟩ := exists_ok (x := flush (alignToByte { base with pc := 23, blockEnd := 2, blockEndBits7 := 7, isLastBlock := true }))
      (by decide +kernel)
    obtain ⟨v, hv⟩ := exists_ok
      (x := (flush (alignToByte { base with pc := 23, blockEnd := 2, blockEndBits7 := 7, isLastBlock := true })).bind wrap) (by decide +kernel)
    exact ⟨u, v, rfl, by decide, by decide, rfl, rfl, by decide, hu, by simpa only [hu, Flow.bind] using hv⟩

/-- A distance with align symbols, the longest header, the property bytes, and a filter type. -/
theorem witness_DecodeOfEncodeIsIdentity :
    (Writable { fmt := .distSlot, sym := Huff.ofLens 0 (List.replicate 80 7), align := some (Huff.ofLens 6 (List.replicate 16 4)) }
        (.distSlot61 (2 ^ 25 - 1) 15) ∧ (Instr.distSlot61 (2 ^ 25 - 1) 15).wellFormed = true) ∧
    (Writable (ctx .blockFlags default) (.blkhdr2 7 true true true 255 255 255 255) ∧
      (Instr.blkhdr2 7 true true true 255 255 255 255).wellFormed = true) ∧
    (Writable (ctx .props default) (.props 7 31 31 true true true) ∧ (Instr.props 7 31 31 true true true).wellFormed = true) ∧
    (Writable (ctx .filterType default) (.typeDelta 31) ∧ (Instr.typeDelta 31).wellFormed = true) := by
  refine ⟨⟨⟨by decide, rfl, fun _ => ⟨0, _, by decide +kernel, rfl, by decide⟩, fun H v h _ hv => ?_⟩, by decide +kernel⟩,
    ⟨⟨by decide, rfl, fun h => absurd h (by decide), fun _ _ h => by cases h⟩, by decide +kernel⟩,
    ⟨⟨by decide, rfl, fun h => absurd h (by decide), fun _ _ h => by cases h⟩, by decide +kernel⟩,
    ⟨⟨by decide, rfl, fun h => absurd h (by decide), fun _ _ h => by cases h⟩, by decide +kernel⟩⟩
  cases h
  cases hv
  exact ⟨6, _, by decide +kernel, rfl, by decide⟩

theorem witness_EncodeOfDecodeIsPrefix :
    (Readable (ctx .mainSym (Huff.ofLens 0 [1, 1])) ∧ decode (ctx .mainSym (Huff.ofLens 0 [1, 1])) [true] = .ok (.lit 1) 1) ∧
    (Readable (ctx .levelNib default) ∧ decode (ctx .levelNib default) [true, true, true, true] = .ok .lvlEsc 4) :=
  ⟨⟨⟨by decide, fun _ => ⟨2, 0, [1, 1], rfl, by decide, rfl⟩, fun _ h => by cases h⟩, rfl⟩,
    ⟨⟨by decide, fun h => absurd h (by decide), fun _ h => by cases h⟩, rfl⟩⟩

theorem witness_CanonicalCodeOrder : buildAccepts .partialCode [2, 1, 3, 3] = true ∧ [2, 1, 3, 3][3]? = some 3 := by decide

/-- A word of the longest length. -/
theorem witness_HuffmanDecodeInvertsCode :
    buildAccepts .partialCode [1, 2, 3, 4, 5, 6, 7, 8, 9, 10, 11, 12, 13, 14, 15, 15] = true ∧
    [1, 2, 3, 4, 5, 6, 7, 8, 9, 10, 11, 12, 13, 14, 15, 15][15]? = some 15 := by decide

theorem witness_FastTableEquivalence : (15 : Nat) ≤ 15 ∧ buildAccepts .partialCode [1, 2, 3, 15] = true ∧ 2 ^ 15 - 1 < 2 ^ 15 := by decide

theorem witness_AlignToByteDiscardsAndRecords : (at3 16).pc % 8 = 0 ∧ (at3 17).pc % 8 ≠ 0 ∧ (at3 23).pc % 8 ≠ 0 := by decide

theorem witness_PropsRejectedEndsDecode :
    14 < (14 : BitVec 5).toNat + ((1 : BitVec 5).toNat + 31) / 32 ∧ 14 < (15 : BitVec 5).toNat + ((0 : BitVec 5).toNat + 31) / 32 := by decide

theorem witness_WindowSizeFormulaAndRange :
    ¬ 14 < (14 : BitVec 5).toNat + ((0 : BitVec 5).toNat + 31) / 32 ∧ ¬ 14 < (13 : BitVec 5).toNat + ((31 : BitVec 5).toNat + 31) / 32 := by
  decide

/-- Properties `00 00`: no chain is valid; and a chain that has gone one byte too far, asked for. -/
theorem witness_PropsStartsFreshFile :
    (∃ s : State, ¬(false = true ∧ s.chainValid = true ∧ ((s.lzSize + s.windowPos : Nat) - s.lzEnd : Int).natAbs ≤ 2 ^ 20) ∧
      ¬ 14 < (0 : BitVec 5).toNat + ((0 : BitVec 5).toNat + 31) / 32 ∧ s.port.windowAvail = true ∧ s.port.filterAvail = true) ∧
    (∃ s : State, ¬(true = true ∧ s.chainValid = true ∧ ((s.lzSize + s.windowPos : Nat) - s.lzEnd : Int).natAbs ≤ 2 ^ 20) ∧
      s.chainValid = true ∧ s.port.windowAvail = true ∧ s.port.filterAvail = true) :=
  ⟨⟨State.reset, by decide, by decide, rfl, rfl⟩, ⟨{ base with chainValid := true, lzEnd := 2 ^ 20 + 17 }, by decide, rfl, rfl, rfl⟩⟩

/-- A chain that has gone as far as it may: with the same window size, and with another. -/
theorem witness_PropsContinuesSolidChain :
    ∃ s : State, s.chainValid = true ∧ ((s.lzSize + s.windowPos : Nat) - s.lzEnd : Int).natAbs ≤ 2 ^ 20 ∧ s.port.filterAvail = true ∧
      s.windowSize = max (((0 : BitVec 5).toNat + 32) * 2 ^ ((1 : BitVec 5).toNat + 12)) (2 ^ 18) ∧
      s.windowSize ≠ max (((16 : BitVec 5).toNat + 32) * 2 ^ ((1 : BitVec 5).toNat + 12)) (2 ^ 18) :=
  ⟨{ base with chainValid := true, lzEnd := 2 ^ 20 + 16, windowSize := 2 ^ 18 }, rfl, by decide, rfl, by decide, by decide⟩

/-- A window refused, a filter buffer refused, and one refused to a file that continues a chain. -/
theorem witness_RefusedAllocationIsOutOfMemory :
    (∃ s : State, s.chainValid = false ∧ s.port.windowAvail = false) ∧ (∃ s : State, s.chainValid = false ∧ s.port.filterAvail = false) ∧
    (∃ s : State, s.chainValid = true ∧ ((s.lzSize + s.windowPos : Nat) - s.lzEnd : Int).natAbs ≤ 2 ^ 20 ∧
      s.windowSize = max (((0 : BitVec 5).toNat + 32) * 2 ^ ((1 : BitVec 5).toNat + 12)) (2 ^ 18) ∧ s.port.filterAvail = false) :=
  ⟨⟨{ base with port := { DecodeArgs.none with windowAvail := false } }, rfl, rfl⟩,
    ⟨{ base with port := { DecodeArgs.none with filterAvail := false } }, rfl, rfl⟩,
    ⟨{ base with chainValid := true, windowSize := 2 ^ 18, port := { DecodeArgs.none with filterAvail := false } }, rfl, by decide, by decide,
      rfl⟩⟩

/-- One header for each `num`: `C6 94 08`, `8F F3 34 12`, `D7 8C 00 00 01`; and the zero-sized `C0 9A 00`. -/
theorem witness_HeaderWithTablesCommits :
    BitVec.ofNat 8 (128 + 64 * true.toNat + 32 * false.toNat + 8 * 0 + (6 : BitVec 3).toNat) ^^^ (0x94 : Byte) ^^^ 0x08 = 0x5A ∧
    BitVec.ofNat 8 (128 + 64 * false.toNat + 32 * false.toNat + 8 * 1 + (7 : BitVec 3).toNat) ^^^ (0xF3 : Byte) ^^^ (0x34 ^^^ 0x12) = 0x5A ∧
    BitVec.ofNat 8 (128 + 64 * true.toNat + 32 * false.toNat + 8 * 2 + (7 : BitVec 3).toNat) ^^^ (0x8C : Byte) ^^^ (0 ^^^ 0 ^^^ 1) = 0x5A ∧
    BitVec.ofNat 8 (128 + 64 * true.toNat + 32 * false.toNat + 8 * 0 + (0 : BitVec 3).toNat) ^^^ (0x9A : Byte) ^^^ 0 = 0x5A := by decide

/-- `47 1D 00`, `0F 73 34 12`, `57 0C 00 00 01`, with and without tables filled. -/
theorem witness_HeaderWithoutTables :
    BitVec.ofNat 8 (64 * true.toNat + 32 * false.toNat + 8 * 0 + (7 : BitVec 3).toNat) ^^^ (0x1D : Byte) ^^^ 0x00 = 0x5A ∧
    BitVec.ofNat 8 (64 * false.toNat + 32 * false.toNat + 8 * 1 + (7 : BitVec 3).toNat) ^^^ (0x73 : Byte) ^^^ (0x34 ^^^ 0x12) = 0x5A ∧
    BitVec.ofNat 8 (64 * true.toNat + 32 * false.toNat + 8 * 2 + (7 : BitVec 3).toNat) ^^^ (0x0C : Byte) ^^^ (0 ^^^ 0 ^^^ 1) = 0x5A ∧
    base.tablesFilled = true ∧ ∃ s : State, s.tablesFilled = false ∧ s.flushable :=
  ⟨by decide, by decide, by decide, rfl, { base with tablesFilled := false }, rfl,
    ⟨base_flushable.lap, base_flushable.regions, base_flushable.bytes⟩⟩

theorem witness_BadHeaderCommitsNothing :
    base.flushable ∧
    BitVec.ofNat 8 (128 * true.toNat + 64 * true.toNat + 32 * false.toNat + 8 * 0 + (6 : BitVec 3).toNat) ^^^ (0x95 : Byte) ^^^ 0x08 ≠ 0x5A ∧
    BitVec.ofNat 8 (128 * true.toNat + 64 * false.toNat + 32 * false.toNat + 8 * 1 + (7 : BitVec 3).toNat) ^^^ (0xF2 : Byte) ^^^
      (0x34 ^^^ 0x12) ≠ 0x5A ∧
    BitVec.ofNat 8 (128 * false.toNat + 64 * true.toNat + 32 * false.toNat + 8 * 2 + (7 : BitVec 3).toNat) ^^^ (0x0D : Byte) ^^^
      (0 ^^^ 0 ^^^ 1) ≠ 0x5A := ⟨base_flushable, by decide, by decide, by decide⟩

/-- Nineteen lengths are there. `lvlNib14` is a nibble of its own, `lvlZrun1` and `lvlZrun15` are runs. -/
theorem witness_LevelNibblesAppend :
    ∃ s : State, s.phase = .levelNib ∧ s.lv.length < 20 ∧ s.lv.length = 19 ∧
      (Instr.lvlNib14.format = .levelNib ∧ Instr.lvlNib14.symbol < 15) ∧ (Instr.lvlZrun1.format = .levelNib2 ∧ Instr.lvlZrun1.symbol ≠ 0) ∧
      (Instr.lvlZrun15.format = .levelNib2 ∧ Instr.lvlZrun15.symbol ≠ 0) :=
  ⟨{ base with phase := .levelNib, lv := List.replicate 19 3 }, rfl, by decide, by decide, by decide, by decide, by decide⟩

/-- One length is missing, in a v6 and in a v7 file. -/
theorem witness_LevelSymbolsAppend :
    (∃ s : State, s.params = Config.params ∧ s.tbl.length < (if s.props.getLsbD 1 then 452 else 436) ∧ s.tbl.length = 435) ∧
    (∃ s : State, s.params = Config.params ∧ s.tbl.length < (if s.props.getLsbD 1 then 452 else 436) ∧ s.tbl.length = 451) ∧
    (Instr.lvLen15.format = .levelSym ∧ Instr.lvLen15.symbol < 16) ∧ 7 < 8 ∧ 127 < 128 :=
  ⟨⟨{ base with tbl := List.replicate 435 3 }, rfl, by decide +kernel, by decide +kernel⟩,
    ⟨{ base with props := 2, tbl := List.replicate 451 3 }, rfl, by decide +kernel, by decide +kernel⟩, by decide, by decide, by decide⟩

theorem witness_LevelRepeatsPrecedingEntry :
    (∃ s : State, s.params = Config.params ∧ s.tbl = List.replicate 434 3 ++ [3] ∧ s.tbl.length < (if s.props.getLsbD 1 then 452 else 436) ∧ 7 < 8 ∧ 127 < 128) ∧
    (∃ s : State, s.params = Config.params ∧ s.tbl = [] ∧ s.flushable) :=
  ⟨⟨{ base with tbl := List.replicate 434 3 ++ [3] }, rfl, rfl, by decide +kernel, by decide, by decide⟩, ⟨base, rfl, rfl, base_flushable⟩⟩

/-- One bit past the block's end; at its end with an over-subscribed code; and with a full one. -/
theorem witness_LevelDecoderIsBuilt :
    (∃ s : State, s.phase = .levelNib ∧ s.lv.length = 20 ∧ s.flushable ∧
      (8 * s.blockEnd + s.blockEndBits7 < s.pc ∨ (s.wasFinished = true ∧ 8 * s.src.bytes.length < s.pc))) ∧
    (∃ s : State, s.phase = .levelNib ∧ s.lv.length = 20 ∧ s.flushable ∧
      ¬(8 * s.blockEnd + s.blockEndBits7 < s.pc ∨ (s.wasFinished = true ∧ 8 * s.src.bytes.length < s.pc)) ∧
      buildAccepts .fullOrEmpty s.lv = false) ∧
    (∃ s : State, s.phase = .levelNib ∧ s.lv.length = 20 ∧ s.flushable ∧
      ¬(8 * s.blockEnd + s.blockEndBits7 < s.pc ∨ (s.wasFinished = true ∧ 8 * s.src.bytes.length < s.pc)) ∧
      buildAccepts .fullOrEmpty s.lv = true) :=
  ⟨⟨{ base with phase := .levelNib, lv := List.replicate 20 1, pc := 25 }, rfl, rfl,
      ⟨base_flushable.lap, base_flushable.regions, base_flushable.bytes⟩, by decide⟩,
    ⟨{ base with phase := .levelNib, lv := List.replicate 20 1, pc := 24 }, rfl, rfl,
      ⟨base_flushable.lap, base_flushable.regions, base_flushable.bytes⟩, by decide, by decide⟩,
    ⟨{ base with phase := .levelNib, lv := 1 :: 1 :: List.replicate 18 0, pc := 24 }, rfl, rfl,
      ⟨base_flushable.lap, base_flushable.regions, base_flushable.bytes⟩, by decide, by decide⟩⟩

/-- At the end of the block: a v6 table set with two main symbols and align lengths of 4; and a v7 one whose main section is no code. -/
theorem witness_TableSetTakesEffect :
    (∃ s : State, s.phase = .levelSym ∧ s.tbl.length = s.params.mainSize + (if s.props.getLsbD 1 then 80 else 64) + 16 + 44 ∧
      ¬(8 * s.blockEnd + s.blockEndBits7 < s.pc ∨ (s.wasFinished = true ∧ 8 * s.src.bytes.length < s.pc)) ∧
      buildAccepts .fullOrEmpty (s.tbl.take 312) = true ∧
      buildAccepts .fullOrEmpty ((s.tbl.drop 312).take 64 ++ List.replicate 16 0) = true ∧
      buildAccepts .fullOrEmpty ((s.tbl.drop 376).take 16) = true ∧ buildAccepts .fullOrEmpty (s.tbl.drop 392) = true) ∧
    (∃ s : State, s.phase = .levelSym ∧ s.tbl.length = s.params.mainSize + (if s.props.getLsbD 1 then 80 else 64) + 16 + 44 ∧
      ¬(8 * s.blockEnd + s.blockEndBits7 < s.pc ∨ (s.wasFinished = true ∧ 8 * s.src.bytes.length < s.pc)) ∧
      buildAccepts .fullOrEmpty (s.tbl.take 312) = false ∧ s.flushable) :=
  ⟨⟨{ base with phase := .levelSym, pc := 24, tbl := [1, 1] ++ List.replicate 374 0 ++ List.replicate 16 4 ++ List.replicate 44 0 }, rfl,
      by decide +kernel, by decide, by decide +kernel, by decide +kernel, by decide +kernel, by decide +kernel⟩,
    ⟨{ base with phase := .levelSym, pc := 24, props := 2, tbl := 1 :: List.replicate 451 0 }, rfl, by decide +kernel, by decide,
      by decide +kernel, ⟨base_flushable.lap, base_flushable.regions, base_flushable.bytes⟩⟩⟩

/-- One bit past the block's end in each of the three places. -/
theorem witness_TableOverReadIsCorrupt :
    (∃ s : State, s.flushable ∧ s.sourceFails = false ∧ s.phase = .levelNib ∧ s.lv.length = 20 ∧ 8 * s.blockEnd + s.blockEndBits7 < s.pc) ∧
    (∃ s : State, s.flushable ∧ s.sourceFails = false ∧ s.phase = .levelSym ∧ s.tbl.length < (s.params.mainSize + if s.props.getLsbD 1 then 140 else 124) ∧
      8 * s.blockEnd + s.blockEndBits7 < s.pc) ∧
    (∃ s : State, s.flushable ∧ s.sourceFails = false ∧ s.phase = .levelSym ∧ s.tbl.length = (s.params.mainSize + if s.props.getLsbD 1 then 140 else 124) ∧
      8 * s.blockEnd + s.blockEndBits7 < s.pc) :=
  ⟨⟨{ base with phase := .levelNib, lv := List.replicate 20 1, pc := 25 }, ⟨base_flushable.lap, base_flushable.regions, base_flushable.bytes⟩,
      rfl, rfl, rfl, by decide⟩,
    ⟨{ base with phase := .levelSym, tbl := List.replicate 435 0, pc := 25 }, ⟨base_flushable.lap, base_flushable.regions, base_flushable.bytes⟩,
      rfl, rfl, by decide +kernel, by decide⟩,
    ⟨{ base with phase := .levelSym, tbl := List.replicate 436 0, pc := 25 }, ⟨base_flushable.lap, base_flushable.regions, base_flushable.bytes⟩,
      rfl, rfl, by decide +kernel, by decide⟩⟩

/-- The last index of a window. -/
theorem witness_LiteralStoresAtCursor : { base with windowPos := 64 + 0x1003 }.windowPos < base.windowSize + 0x1004 := by decide

theorem witness_LastlenRepeatsMatch :
    { base with lastLength := 0 }.lastLength = 0 ∧
    ∃ s : State, s.lastLength ≠ 0 ∧ s.matchReady s.repDist.r0.toNat s.lastLength :=
  ⟨rfl, { base with repDist := ⟨16, 1, 1, 1⟩, lastLength := 4148 }, by decide,
    ⟨by decide, by decide, by decide, by decide, ⟨base_windowFilled.belowCursor, base_windowFilled.wholeLap⟩, by decide⟩⟩

theorem witness_RepSymbolsMoveToFront : base.repDist = ⟨10, 12, 13, 14⟩ := rfl

theorem witness_LengthSlotsCopyFromLastDistance :
    (Instr.lenSlot43 511).format = .lenSlot ∧ (Instr.lenSlot43 511).wellFormed = true ∧
    4097 = ((4 ||| ((Instr.lenSlot43 511).symbol &&& 3)) <<< (((Instr.lenSlot43 511).symbol >>> 2) - 1)) +
      (Instr.lenSlot43 511).operands.headD 0 + 2 ∧
    { base with phase := .lenSlot, repDist := ⟨16, 1, 1, 1⟩ }.matchReady 16 4097 ∧
    Instr.lenSlot0.format = .lenSlot ∧ Instr.lenSlot0.wellFormed = true :=
  ⟨by decide, by decide, by decide,
    ⟨by decide, by decide, by decide, by decide, ⟨base_windowFilled.belowCursor, base_windowFilled.wholeLap⟩, by decide⟩, by decide, by decide⟩

theorem witness_MatchSlotsSetLength :
    Instr.matchSlot0.format = .mainSym ∧ 262 ≤ Instr.matchSlot0.symbol ∧ Instr.matchSlot0.wellFormed = true ∧
    (Instr.matchSlot43 511).format = .mainSym ∧ (Instr.matchSlot43 511).symbol < 306 ∧ (Instr.matchSlot43 511).wellFormed = true := by decide

/-- Slot 0; and slot 16, the first whose width adds to the length. -/
theorem witness_DistanceSlotsCopyMatch :
    (base.params = Config.params ∧ Instr.distSlot0.format = .distSlot ∧ Instr.distSlot0.wellFormed = true ∧
      { base with phase := .distSlot, pendLen := 2 }.matchReady 1 2) ∧
    (Instr.distSlot16 2 11).format = .distSlot ∧ (Instr.distSlot16 2 11).wellFormed = true ∧
    300 = ((2 ||| ((Instr.distSlot16 2 11).symbol &&& 1)) <<< (((Instr.distSlot16 2 11).symbol - 2) / 2)) + (16 * 2 + 11) + 1 ∧
    { reps with phase := .distSlot, pendLen := 4097 }.matchReady 300 4098 :=
  ⟨⟨rfl, by decide, by decide,
      ⟨by decide, by decide, by decide, by decide, ⟨base_windowFilled.belowCursor, base_windowFilled.wholeLap⟩, by decide⟩⟩,
    by decide, by decide, by decide,
    ⟨by decide, by decide, by decide, by decide, ⟨reps_windowFilled.belowCursor, reps_windowFilled.wholeLap⟩, by decide⟩⟩

theorem witness_SentinelDistancesAreCorrupt :
    Instr.distSlot62.format = .distSlot ∧ 62 ≤ Instr.distSlot62.symbol ∧ base.dictSizeForCheck ≤ 2 ^ 31 ∧ base.flushable :=
  ⟨by decide, by decide, by decide, base_flushable⟩

/-- The first distance before the start, 17, and the first beyond the dictionary, 65, in each of the three clauses. -/
theorem witness_InvalidDistancesAreCorrupt :
    base.flushable ∧ base.lastLength ≠ 0 ∧ (base.dictSizeForCheck < 17 ∨ (base.lzSize = 0 ∧ base.windowPos < 17)) ∧ base.dictSizeForCheck < 65 ∧
    Instr.lenSlot7.format = .lenSlot ∧ Instr.lenSlot7.wellFormed = true ∧
    (Instr.distSlot8 0).format = .distSlot ∧ (Instr.distSlot8 0).symbol < 62 ∧ (Instr.distSlot8 0).wellFormed = true ∧
    17 = ((2 ||| ((Instr.distSlot8 0).symbol &&& 1)) <<< (((Instr.distSlot8 0).symbol - 2) / 2)) + 0 + 1 :=
  ⟨base_flushable, by decide, by decide, by decide, by decide, by decide, by decide, by decide, by decide, by decide⟩

theorem witness_ReservedSymbolsAreCorrupt :
    Instr.reserved306.format = .mainSym ∧ 306 ≤ Instr.reserved306.symbol ∧ base.flushable := ⟨by decide, by decide, base_flushable⟩

/-- A region that begins beyond the cursor stays, whatever waits behind it. -/
theorem flush_far_region (rest : List FilterEntry) :
    flush { base with queue := ⟨100, 1, 1, 0⟩ :: rest } = .ok { base with
      queue := ⟨100, 1, 1, 0⟩ :: rest, lzWritten := 16, writtenFileSize := 16
      snk := { bytes := (List.range 16).map (BitVec.ofNat 8), ioAt := none } } := rfl

/-- A region that ends at the cursor is drained. -/
theorem flush_last_region (rest : List FilterEntry) :
    flush { base with queue := ⟨15, 1, 3, 0⟩ :: ⟨100, 1, 1, 0⟩ :: rest } = .ok { base with
      queue := ⟨100, 1, 1, 0⟩ :: rest, lzWritten := 16, writtenFileSize := 16
      snk := { bytes := (List.range 16).map (BitVec.ofNat 8), ioAt := none } } := rfl

/-- A queue with one free place; a full one that the flush drains by an entry; and a full one that it does not drain. -/
theorem witness_FilterOpensDescriptor :
    (List.replicate 8191 (⟨0, 1, 1, 0⟩ : FilterEntry)).length < 8192 ∧
    (∃ u, flush { base with queue := ⟨15, 1, 3, 0⟩ :: ⟨100, 1, 1, 0⟩ :: List.replicate 8190 ⟨101, 1, 1, 0⟩ } = .ok u ∧ u.queue.length < 8192) ∧
    (∃ u, flush { base with queue := ⟨100, 1, 1, 0⟩ :: List.replicate 8191 ⟨101, 1, 1, 0⟩ } = .ok u ∧ 8192 ≤ u.queue.length) := by
  refine ⟨?_, ⟨_, flush_last_region _, ?_⟩, ⟨_, flush_far_region _, ?_⟩⟩ <;>
    simp only [List.length_cons, List.length_replicate] <;> decide

theorem witness_VariableWidthIntegers :
    { base with phase := .vuDelta }.phase = .vuDelta ∧ { base with phase := .vuSize }.phase = .vuSize ∧
    (255 : Byte).toNat + 2 ^ 8 * (255 : Byte).toNat + 2 ^ 16 * (255 : Byte).toNat + 2 ^ 24 * (255 : Byte).toNat = 2 ^ 32 - 1 := by decide

theorem witness_DescriptorFate :
    (Instr.typeDelta 31, 0, 32) = (Instr.typeDelta 31, (0 : BitVec 3), (31 : BitVec 5).toNat + 1) ∧
    (Instr.type7, (7 : BitVec 3)) ∈ [(Instr.typeE8, (1 : BitVec 3)), (.typeE8E9, 2), (.typeArm, 3), (.type4, 4), (.type5, 5), (.type6, 6),
      (.type7, 7)] ∧ base.params = Config.params := ⟨rfl, by decide, rfl⟩

/-- The most channels, and the last byte of the last channel. -/
theorem witness_DeltaIsNegatedPrefixSum : 1 ≤ 32 ∧ 32 ≤ 32 ∧ 31 < 32 ∧ 31 + 1 * 32 < (List.replicate 64 (1 : Byte)).length := by decide

theorem witness_FilterDispatchAndArm :
    (⟨0, 4, 0, 1⟩ : FilterEntry).type = 0 ∧ (⟨0, 4, 3, 0⟩ : FilterEntry).type = 3 ∧ 4 ≤ (⟨0, 4, 4, 0⟩ : FilterEntry).type.toNat := by decide

/-- A sink without an end; one that a write just fills; one full, with nothing left to push; and one byte beyond a sink's count. -/
theorem witness_SinkWriteClamps :
    base.snk.ioAt = none ∧
    (∃ s : State, s.sizeDefined = false ∧ s.snk.ioAt = some 3 ∧ s.snk.bytes.length + 2 ≤ 3) ∧
    (∃ s : State, s.sizeDefined = true ∧ ¬ s.writtenFileSize < s.unpackedSize.toNat ∧ s.snk.ioAt = some 1 ∧ s.snk.bytes.length = 1) ∧
    (∃ s : State, s.sizeDefined = false ∧ s.snk.ioAt = some 2 ∧ 0 < 2 ∧ 2 < s.snk.bytes.length + 2) :=
  ⟨rfl, ⟨{ base with snk := { bytes := [1], ioAt := some 3 } }, rfl, rfl, by decide⟩,
    ⟨{ base with sizeDefined := true, snk := { bytes := [1], ioAt := some 1 } }, rfl, by decide, rfl, rfl⟩,
    ⟨{ base with snk := { bytes := [1], ioAt := some 2 } }, rfl, rfl, by decide, by decide⟩⟩

theorem filtering_queueOk : queueOk filtering where
  bound := by decide
  roomInside := by decide
  ordered := by decide
  entries := by decide
  collecting := by exact ⟨rfl, by decide⟩
  written := by decide

/-- The clauses: nothing pending, everything written, before a region, at its first byte, and at its end. -/
theorem witness_FlushFollowsItsLoop :
    (queueOk base ∧ base.queue = [] ∧ base.lzWritten < base.total) ∧
    (queueOk { base with lzWritten := 16 } ∧ { base with lzWritten := 16 }.lzWritten = base.total) ∧
    (queueOk filtering ∧ filtering.lzWritten < filtering.total ∧ filtering.lzWritten < 4) ∧
    (queueOk { filtering with lzWritten := 4 } ∧ 4 ≤ { filtering with lzWritten := 4 }.lzWritten) ∧
    queueOk { filtering with lzWritten := 11, fb := bytes [4, 5, 6, 7, 8, 9, 10] } :=
  ⟨⟨⟨by decide, by decide, by decide, by decide, rfl, by decide⟩, rfl, by decide⟩,
    ⟨⟨by decide, by decide, by decide, by decide, rfl, by decide⟩, rfl⟩, ⟨filtering_queueOk, by decide, by decide⟩,
    ⟨⟨by decide, by decide, by decide, by decide, by exact ⟨rfl, by decide⟩, by decide⟩, by decide⟩,
    ⟨by decide, by decide, by decide, by decide, by exact ⟨rfl, by decide⟩, by decide⟩⟩

theorem witness_FlushReachesCursor : queueOk filtering ∧ filtering.flushable ∧ filtering.snk.ioAt = none :=
  ⟨filtering_queueOk, ⟨by decide, by decide, base_flushable.bytes⟩, rfl⟩

/-- The cursor one below the window's size; just at it; and a whole window beyond it. -/
theorem witness_WrapMovesTail :
    { base with windowSize := 17 }.windowPos < 17 ∧
    (∃ s : State, s.windowSize ≤ s.windowPos ∧ s.windowPos - s.windowSize = 0 ∧ s.filled s.windowSize s.windowPos) ∧
    (∃ s : State, s.windowSize ≤ s.windowPos ∧ s.windowPos - s.windowSize = s.windowSize ∧ s.filled s.windowSize s.windowPos) :=
  ⟨by decide, ⟨{ base with windowSize := 16 }, by decide, by decide, by decide +kernel⟩,
    ⟨{ base with windowSize := 8 }, by decide, by decide, by decide +kernel⟩⟩

/-- An operation that raises an error. -/
theorem exists_raised {x : Flow State} (h : (raisedIn x).isSome = true) : ∃ k u, x = .raised k u := by
  cases x with
  | raised k u => exact ⟨k, u, rfl⟩
  | _ => cases h

/-- `base` with a sink that fails after 4 bytes. -/
def stopped : State := { base with snk := { bytes := [], ioAt := some 4 } }

/-- A full queue of regions of one byte, far beyond the cursor. -/
def waiting : List FilterEntry := ⟨100, 1, 1, 0⟩ :: (List.range 8191).map fun i => ⟨101 + i, 1, 1, 0⟩

theorem waiting_length : waiting.length = 8192 := by simp [waiting]

theorem waiting_ordered : waiting.Pairwise fun f g => f.startPos + f.size ≤ g.startPos := by
  refine List.pairwise_cons.2 ⟨by simp, List.pairwise_map.2 (List.pairwise_lt_range.imp fun h => ?_)⟩
  simp only
  omega

theorem waiting_entries : ∀ f ∈ waiting,
    1 ≤ f.size ∧ f.size ≤ Config.filterSizeMax ∧ f.channels ≤ Config.filterChannelsMax ∧ f.startPos + f.size ≤ 8300 := by
  simp only [waiting, List.mem_cons, List.mem_map, List.mem_range, Config.filterSizeMax, Config.filterChannelsMax]
  rintro f (rfl | ⟨i, h, rfl⟩) <;> simp only <;> omega

/-- The plain bytes before a region stop at the sink. -/
theorem flush_stopped_far (rest : List FilterEntry) :
    flush { stopped with queue := ⟨100, 1, 1, 0⟩ :: rest, filterEnd := 8300 } = .raised .io { stopped with
      queue := ⟨100, 1, 1, 0⟩ :: rest, filterEnd := 8300
      snk := { bytes := (List.range 4).map (BitVec.ofNat 8), ioAt := some 4 } } := rfl

/-- The sink's clauses: at the limit, one bit past the input's end, at the end of the last block, and at `FILTER` with a full queue. -/
theorem witness_TakingAnErrorFlushesAndReports_sink :
    (∃ s : State, queueOk s ∧ s.flushable ∧ s.phase = .symbols ∧ s.limit ≤ s.windowPos ∧ ∃ k u, flush s = .raised k u) ∧
    (∃ s : State, queueOk s ∧ s.flushable ∧ s.phase = .symbols ∧ s.windowPos < s.limit ∧ s.sizeDefined = false ∧ s.sourceFails = false ∧
      s.wasFinished = true ∧ 8 * s.src.bytes.length < s.pc ∧ ∃ k u, flush s = .raised k u) ∧
    (∃ s : State, queueOk s ∧ s.flushable ∧ s.phase = .symbols ∧ s.windowPos < s.limit ∧ s.sizeDefined = false ∧ s.sourceFails = false ∧
      s.pc ≤ 8 * s.src.bytes.length ∧ s.pc = 8 * s.blockEnd + s.blockEndBits7 ∧ s.isLastBlock = true ∧
      ∃ k u, flush (alignToByte s) = .raised k u) ∧
    (∃ s : State, queueOk s ∧ s.flushable ∧ 8192 ≤ s.queue.length ∧ ∃ k u, flush s = .raised k u) := by
  have hq : queueOk base := ⟨by decide, by decide, by decide, by decide, rfl, by decide⟩
  have hf := base_flushable
  refine ⟨⟨{ stopped with limit := 16 }, ⟨hq.1, hq.2, hq.3, hq.4, hq.5, hq.6⟩, ⟨hf.1, hf.2, hf.3⟩, rfl, by decide,
      exists_raised (by decide +kernel)⟩,
    ⟨{ stopped with wasFinished := true, pc := 25 }, ⟨hq.1, hq.2, hq.3, hq.4, hq.5, hq.6⟩, ⟨hf.1, hf.2, hf.3⟩, rfl, by decide, rfl, rfl, rfl,
      by decide, exists_raised (by decide +kernel)⟩,
    ⟨{ stopped with isLastBlock := true, pc := 23, blockEnd := 2, blockEndBits7 := 7 }, ⟨hq.1, hq.2, hq.3, hq.4, hq.5, hq.6⟩,
      ⟨hf.1, hf.2, hf.3⟩, rfl, by decide, rfl, rfl, by decide, by decide, rfl, exists_raised (by decide +kernel)⟩,
    ⟨{ stopped with queue := waiting, filterEnd := 8300 }, ?_, ⟨by decide, fun _ _ => Nat.zero_le _, hf.3⟩, Nat.le_of_eq waiting_length.symm,
      _, _, flush_stopped_far _⟩⟩
  exact ⟨Nat.le_of_eq waiting_length, fun h => (by rcases h with h | h | h <;> cases h), waiting_ordered, waiting_entries, ⟨rfl, by decide⟩, by decide⟩

/-- The source fails at the byte the position is at, and inside the look-ahead of a position 13 bytes before it. -/
theorem witness_TakingAnErrorFlushesAndReports :
    base.flushable ∧
    (∃ s : State, s.flushable ∧ s.src.ioAt = some 3 ∧ 3 ≤ s.pc / 8 ∧ s.phase = .symbols ∧
      ¬(s.sizeDefined = true ∧ s.lzEnd ≤ s.lzSize + s.windowPos) ∧ s.windowPos < s.limit) ∧
    (∃ s : State, s.flushable ∧ s.src.ioAt = some 16 ∧ s.src.bytes.length < s.pc / 8 + 16 ∧ s.phase = .levelNib ∧ s.lv.length < 20) ∧
    (∃ s : State, s.flushable ∧ s.src.ioAt = some 3 ∧ 3 ≤ s.pc / 8 ∧ s.phase = .levelSym ∧
      s.tbl.length < s.params.mainSize + if s.props.getLsbD 1 then 140 else 124) ∧
    ∀ p ∈ [Phase.header, .levelNib2, .vuDelta], ∃ s : State, s.flushable ∧ s.src.ioAt = some 3 ∧ 3 ≤ s.pc / 8 ∧ s.phase = p :=
  ⟨base_flushable,
    ⟨{ base with src := { base.src with ioAt := some 3 }, pc := 24 },
      ⟨base_flushable.lap, base_flushable.regions, base_flushable.bytes⟩, rfl, by decide, rfl, by decide, by decide⟩,
    ⟨{ base with src := { base.src with ioAt := some 16 }, phase := .levelNib },
      ⟨base_flushable.lap, base_flushable.regions, base_flushable.bytes⟩, rfl, by decide, rfl, by decide⟩,
    ⟨{ base with src := { base.src with ioAt := some 3 }, pc := 24, phase := .levelSym, tbl := List.replicate 435 3 },
      ⟨base_flushable.lap, base_flushable.regions, base_flushable.bytes⟩, rfl, by decide, rfl, by decide +kernel⟩,
    fun p _ => ⟨{ base with src := { base.src with ioAt := some 3 }, pc := 24, phase := p },
      ⟨base_flushable.lap, base_flushable.regions, base_flushable.bytes⟩, rfl, (by decide : 3 ≤ 24 / 8), rfl⟩⟩

/-- The lines of the rule, one state for each. -/
theorem witness_FileResultOrder :
    { base with isUnsupportedFilter := true }.isUnsupportedFilter = true ∧ base.isUnsupportedFilter = false ∧
    0 < { base with fb := [1] }.fb.length ∧
    (∃ s : State, s.sizeDefined = true ∧ s.writtenFileSize < s.unpackedSize.toNat) ∧
    (∃ P : Config.Params, true = true ∧ base.sizeDefined = false ∧ P.eofUndefinedOk = false) ∧
    (∃ s : State, s.minorError = true ∧ s.writtenFileSize = 0) ∧
    ¬(0 < base.fb.length ∨ (base.sizeDefined = true ∧ base.writtenFileSize < base.unpackedSize.toNat) ∨
      (true = true ∧ base.sizeDefined = false ∧ Config.params.eofUndefinedOk = false) ∨ (base.minorError = true ∧ base.writtenFileSize = 0)) :=
  ⟨rfl, rfl, by decide, ⟨{ base with sizeDefined := true, unpackedSize := 1 }, rfl, by decide⟩,
    ⟨{ Config.params with eofUndefinedOk := false }, rfl, rfl, rfl⟩, ⟨{ base with minorError := true }, rfl, rfl⟩, by decide⟩

/-! The invariants. -/

/-- A file in its symbol loop, 16 bytes into a window of 2^18, with two main symbols of one bit. -/
def live : State :=
  { base with
    windowSize := 2 ^ 18, dictSizeForCheck := 2 ^ 18, limit := 2 ^ 18, src := zeros, blockEnd := 16
    huff := { State.reset.huff with main := Huff.ofLens 10 ([1, 1] ++ List.replicate 310 0) } }

theorem live_memoryOk : memoryOk live := by decide +kernel

theorem live_queueOk : queueOk live := ⟨by decide, by decide, by decide, by decide, rfl, by decide⟩

theorem live_cursorOk : cursorOk live where
  params := by decide
  source := ⟨base_windowFilled.belowCursor, fun h => absurd rfl h⟩
  lap := by decide
  dictionary := by decide
  betweenElements := by decide
  insideElement := by decide
  chain := by decide
  lastLength := by decide
  pending := by decide
  distances := by decide

theorem live_decodersOk : decodersOk live where
  params := by decide
  tables _ := ⟨⟨10, _, by decide +kernel, by decide +kernel, rfl⟩, ⟨7, List.replicate 80 0, by decide +kernel, by decide +kernel, rfl⟩,
    ⟨6, List.replicate 16 0, by decide +kernel, by decide +kernel, rfl⟩, ⟨7, List.replicate 44 0, by decide +kernel, by decide +kernel, rfl⟩⟩
  level h := by cases h
  nibbles h := by cases h <;> contradiction

theorem live_sinkOk : sinkOk live := ⟨by decide, by decide⟩

theorem live_steps : ∃ t, step live = .next t := exists_next (by decide +kernel)

theorem witness_StepKeepsMemoryCanonical : memoryOk live ∧ ∃ t, step live = .next t := ⟨live_memoryOk, live_steps⟩

theorem witness_StepKeepsQueueOk : queueOk live ∧ ∃ t, step live = .next t := ⟨live_queueOk, live_steps⟩

theorem witness_StepKeepsCursorOk : queueOk live ∧ cursorOk live ∧ decodersOk live ∧ ∃ t, step live = .next t :=
  ⟨live_queueOk, live_cursorOk, live_decodersOk, live_steps⟩

theorem witness_StepKeepsDecodersOk : decodersOk live ∧ ∃ t, step live = .next t := ⟨live_decodersOk, live_steps⟩

theorem witness_StepKeepsSinkOk : sinkOk live ∧ ∃ t, step live = .next t := ⟨live_sinkOk, live_steps⟩

theorem witness_NoStepFaults : queueOk live ∧ cursorOk live := ⟨live_queueOk, live_cursorOk⟩

/-- A chain of a window of 2^18 bytes, and a call to continue it with one of 393216. -/
theorem witness_OnlyWindowSizeChangeIsRefused : ∃ s : State, decodersOk s ∧ step s = .refused .windowSizeChange :=
  ⟨{ State.reset with chainValid := true, windowSize := 2 ^ 18, ctrl := [.decode { DecodeArgs.none with props := 0x0181 }] },
    { params := by decide
      tables := fun _ => ⟨⟨10, List.replicate 312 0, by decide +kernel, by decide +kernel, rfl⟩, (live_decodersOk.tables (.inl (by decide))).2⟩
      level := fun h => by cases h
      nibbles := fun h => by cases h <;> contradiction },
    refused_of (by decide +kernel)⟩

theorem witness_PcNeverMovesBackward : live.running ∧ ∃ t, step live = .next t := ⟨by decide, live_steps⟩

end Sys2Proof.Tests
end

section
/-! PROOFS. What a decoded instruction is: its row, its format and its operand values, whatever the context. -/

namespace Sys2Proof

open Operands (Field)

/-! Rows (R132): the row of a table value and operand values leads back to them. -/

theorem levelNibRow_inv {v : Nat} {ops : List Nat} {i : Instr} (h : levelNibRow v ops = some i) :
    i.format = .levelNib ∧ i.symbol = v ∧ i.operands = ops := by
  unfold levelNibRow at h
  split at h <;> cases h <;> exact ⟨rfl, rfl, rfl⟩

theorem levelNib2Row_inv {v : Nat} {ops : List Nat} {i : Instr} (h : levelNib2Row v ops = some i) :
    i.format = .levelNib2 ∧ i.symbol = v ∧ i.operands = ops := by
  unfold levelNib2Row at h
  split at h <;> cases h <;> exact ⟨rfl, rfl, rfl⟩

theorem levelSymRow_inv {v : Nat} {ops : List Nat} {i : Instr} (h : levelSymRow v ops = some i) :
    i.format = .levelSym ∧ i.symbol = v ∧ i.operands = ops := by
  unfold levelSymRow at h
  split at h <;> cases h <;> exact ⟨rfl, rfl, rfl⟩

/-- No main symbol lies above 311 (R228). -/
theorem mainRow_above {v : Nat} (ops : List Nat) (h : 312 ≤ v) : mainRow v ops = none := by
  obtain ⟨k, rfl⟩ := Nat.exists_eq_add_of_le' h
  rfl

theorem mainRow_inv {v : Nat} {ops : List Nat} {i : Instr} (hv : 256 ≤ v) (h : mainRow v ops = some i) :
    i.format = .mainSym ∧ i.symbol = v ∧ i.operands = ops := by
  have hlt : v < 312 := by
    by_contra hlt
    rw [mainRow_above ops (by omega)] at h
    cases h
  interval_cases v <;> rcases ops with _ | ⟨a, _ | ⟨b, l⟩⟩ <;> cases h <;> exact ⟨rfl, rfl, rfl⟩

/-- No length slot lies above 43 (R111). -/
theorem lenSlotRow_above {v : Nat} (ops : List Nat) (h : 44 ≤ v) : lenSlotRow v ops = none := by
  obtain ⟨k, rfl⟩ := Nat.exists_eq_add_of_le' h
  rfl

theorem lenSlotRow_inv {v : Nat} {ops : List Nat} {i : Instr} (h : lenSlotRow v ops = some i) :
    i.format = .lenSlot ∧ i.symbol = v ∧ i.operands = ops := by
  have hlt : v < 44 := by
    by_contra hlt
    rw [lenSlotRow_above ops (by omega)] at h
    cases h
  interval_cases v <;> rcases ops with _ | ⟨a, _ | ⟨b, l⟩⟩ <;> cases h <;> exact ⟨rfl, rfl, rfl⟩

/-- No distance slot lies above 79 (R112). -/
theorem distSlotRow_above {v : Nat} (ops : List Nat) (h : 80 ≤ v) : distSlotRow v ops = none := by
  obtain ⟨k, rfl⟩ := Nat.exists_eq_add_of_le' h
  rfl

theorem distSlotRow_inv {v : Nat} {ops : List Nat} {i : Instr} (h : distSlotRow v ops = some i) :
    i.format = .distSlot ∧ i.symbol = v ∧ i.operands = ops := by
  have hlt : v < 80 := by
    by_contra hlt
    rw [distSlotRow_above ops (by omega)] at h
    cases h
  interval_cases v <;> rcases ops with _ | ⟨a, _ | ⟨b, _ | ⟨c, l⟩⟩⟩ <;> cases h <;> exact ⟨rfl, rfl, rfl⟩

theorem vuRow_inv {v : Nat} {ops : List Nat} {i : Instr} (h : vuRow v ops = some i) :
    i.format = .vuSel ∧ i.symbol = v ∧ (fieldsHold (Operands.vuFields v) ops = true → i.operands = ops) := by
  unfold vuRow at h
  split at h <;> cases h
  all_goals
    refine ⟨rfl, rfl, fun hops => ?_⟩
    simp [Operands.vuFields, List.replicate, fieldsHold, Field.holds] at hops
    simp [Instr.operands]
    omega

theorem filterTypeRow_inv {v : Nat} {ops : List Nat} {i : Instr} (h : filterTypeRow v ops = some i) :
    i.format = .filterType ∧ i.symbol = v ∧ (fieldsHold (Operands.filterFields v) ops = true → i.operands = ops) := by
  unfold filterTypeRow at h
  split at h <;> cases h
  case h_1 ch =>
    refine ⟨rfl, rfl, fun hops => ?_⟩
    simp [Operands.filterFields, fieldsHold, Field.holds] at hops
    simp [Instr.operands]
    omega
  all_goals exact ⟨rfl, rfl, fun _ => rfl⟩

/-- The instruction of a row has the row's format and table value, and its operand values where those fit their fields. -/
theorem ofRow_inv {f : Format} {v : Nat} {ops : List Nat} {i : Instr} (h : ofRow f v ops = some i) :
    i.format = f ∧ i.symbol = v ∧ ∀ P, fieldsHold (fieldsOf P f v) ops = true → i.operands = ops := by
  have total (hi : i.format = f ∧ i.symbol = v ∧ i.operands = ops) :
      i.format = f ∧ i.symbol = v ∧ ∀ P, fieldsHold (fieldsOf P f v) ops = true → i.operands = ops :=
    ⟨hi.1, hi.2.1, fun _ _ => hi.2.2⟩
  cases f with
  | levelNib => exact total (levelNibRow_inv h)
  | levelNib2 => exact total (levelNib2Row_inv h)
  | levelSym => exact total (levelSymRow_inv h)
  | mainSym =>
    simp only [ofRow] at h
    split at h
    · rename_i hv
      split at h <;> cases h
      rename_i hops
      exact total ⟨rfl, by simp [Instr.symbol]; omega, hops.symm⟩
    · exact total (mainRow_inv (by omega) h)
  | lenSlot => exact total (lenSlotRow_inv h)
  | distSlot => exact total (distSlotRow_inv h)
  | vuSel =>
    obtain ⟨hf, hs, ho⟩ := vuRow_inv h
    exact ⟨hf, hs, fun _ => ho⟩
  | filterType =>
    obtain ⟨hf, hs, ho⟩ := filterTypeRow_inv h
    exact ⟨hf, hs, fun _ => ho⟩
  | props => cases h
  | blockFlags => cases h

/-! Raw fields and Huffman symbols. -/

/-- `n` more bits after the value `acc` stay below the next multiple of 2^n. -/
theorem takeBits_lt (n acc : Nat) (bs : List Bool) : takeBits n acc bs < (acc + 1) * 2 ^ n := by
  induction n generalizing acc bs with
  | zero => simp [takeBits]
  | succ n ih =>
    cases bs with
    | nil =>
      calc takeBits n (2 * acc + 1) [] < (2 * acc + 1 + 1) * 2 ^ n := ih ..
        _ = (acc + 1) * 2 ^ (n + 1) := by ring
    | cons b bs =>
      have hb : b.toNat ≤ 1 := Bool.toNat_le b
      calc takeBits n (2 * acc + b.toNat) bs < (2 * acc + b.toNat + 1) * 2 ^ n := ih ..
        _ ≤ (2 * acc + 1 + 1) * 2 ^ n := Nat.mul_le_mul_right _ (by omega)
        _ = (acc + 1) * 2 ^ (n + 1) := by ring

/-- `n` raw bits hold less than 2^n (R143). -/
theorem bitsValue_lt (n : Nat) (bs : List Bool) : bitsValue n bs < 2 ^ n := by
  simpa [bitsValue] using takeBits_lt n 0 bs

/-- The symbols of a length are indices of the length table. -/
theorem symbolsOfLen_lt {k s x : Nat} {ls : List Nat} (h : x ∈ symbolsOfLen k s ls) : x < s + ls.length := by
  induction ls generalizing s with
  | nil => simp [symbolsOfLen] at h
  | cons l ls ih =>
    simp only [List.length_cons]
    have later (h : x ∈ symbolsOfLen k (s + 1) ls) : x < s + (ls.length + 1) := by
      have := ih h
      omega
    unfold symbolsOfLen at h
    split at h
    · rcases List.mem_cons.1 h with rfl | h
      · omega
      · exact later h
    · exact later h

/-- A decoder built for `n` symbols decodes only those (R132, R178). -/
theorem Huff.decodeBits_lt {H : Huff} {n s k : Nat} {bits : List Bool} (hH : H.builtFor n)
    (h : H.decodeBits bits = .ok (s, k)) : s < n := by
  obtain ⟨F, lens, rfl, -, rfl⟩ := hH
  simp only [Huff.decodeBits, Huff.decodeValue, lookup] at h
  split at h
  · cases h
  · split at h <;> cases h
    rename_i hl
    split at hl
    · cases hl
    · obtain ⟨x, hx, hxs⟩ := Option.map_eq_some_iff.1 hl
      cases hxs
      obtain ⟨k', -, hmem⟩ := List.mem_flatMap.1 (List.mem_of_getElem? hx)
      simpa using symbolsOfLen_lt hmem

/-- A symbol read in the code of a decoder built for `n` symbols is one of them. -/
theorem readSymbol_lt {H : Huff} {n s k : Nat} {bits : List Bool} (hH : H.builtFor n)
    (h : readSymbol H bits = .ok (s, k)) : s < n := by
  unfold readSymbol at h
  split at h <;> cases h
  rename_i hd
  exact Huff.decodeBits_lt hH hd

/-! Fields and instructions. -/

section
variable {c : DecodeCtx}

/-- A field read fits its width, where the align code is one of 16 symbols (R112). -/
theorem readField_holds (ha : ∀ H, c.align = some H → H.builtFor Config.alignSize) {f : Field} {bits : List Bool} {v n : Nat}
    (h : readField c f bits = .ok (v, n)) : f.holds v = true := by
  cases f with
  | raw m =>
    cases h
    simpa [Field.holds] using bitsValue_lt n bits
  | low4 =>
    simp only [readField] at h
    split at h
    · cases h
      simpa [Field.holds] using bitsValue_lt 4 bits
    · rename_i H hH
      simpa [Field.holds, Config.alignSize] using readSymbol_lt (ha H hH) h

/-- The fields read fit their widths, each its own. -/
theorem readFields_hold (ha : ∀ H, c.align = some H → H.builtFor Config.alignSize) {fs : List Field} {bits : List Bool}
    {vs : List Nat} {n : Nat} (h : readFields c fs bits = .ok (vs, n)) : fieldsHold fs vs = true := by
  induction fs generalizing bits vs n with
  | nil => cases h; rfl
  | cons f fs ih =>
    simp only [readFields] at h
    split at h
    · cases h
    · rename_i v m hv
      split at h <;> cases h
      rename_i ws k hws
      simp [fieldsHold, readField_holds ha hv, ih hws]

/-- A decoded row: a table value, the fields after it and the row of both. -/
theorem decodeRow_ok {v n m : Nat} {rest : List Bool} {i : Instr} (h : decodeRow c v n rest = .ok i m) :
    ∃ ops k, readFields c (fieldsOf c.params c.fmt v) rest = .ok (ops, k) ∧ ofRow c.fmt v ops = some i ∧ m = n + k := by
  unfold decodeRow at h
  split at h
  · cases h
  · rename_i ops k hr
    split at h <;> cases h
    rename_i ho
    exact ⟨ops, k, hr, ho, rfl⟩

/-- A header decodes to one of the four header instructions (R102). -/
theorem decodeHeader_format {bits : List Bool} {i : Instr} {n : Nat} (h : decodeHeader bits = .ok i n) :
    i.format = .blockFlags ∧ i.operands = [] := by
  simp only [decodeHeader] at h
  split at h <;> cases h <;> exact ⟨rfl, rfl⟩

/-- A decoded instruction is the property bytes, a header, or the row of a table value and the fields after it (R132). -/
theorem decode_cases {bits : List Bool} {i : Instr} {n : Nat} (h : decode c bits = .ok i n) :
    (i.format = c.fmt ∧ i.operands = [] ∧ (c.fmt = .props ∨ c.fmt = .blockFlags)) ∨
    ∃ v m ops k, readFields c (fieldsOf c.params c.fmt v) (bits.drop m) = .ok (ops, k) ∧ ofRow c.fmt v ops = some i := by
  unfold decode at h
  split at h
  · rename_i hc
    cases h
    exact .inl ⟨hc.symm, rfl, .inl hc⟩
  · rename_i hc
    obtain ⟨hf, ho⟩ := decodeHeader_format h
    exact .inl ⟨hf.trans hc.symm, ho, .inr hc⟩
  · split at h
    · cases h
    · rename_i v m hv
      obtain ⟨ops, k, hr, ho, -⟩ := decodeRow_ok h
      exact .inr ⟨v, m, ops, k, hr, ho⟩

/-- A decoded instruction has the context's format (R125). -/
theorem decode_format {bits : List Bool} {i : Instr} {n : Nat} (h : decode c bits = .ok i n) : i.format = c.fmt := by
  rcases decode_cases h with ⟨hf, -⟩ | ⟨v, m, ops, k, -, ho⟩
  · exact hf
  · exact (ofRow_inv ho).1

/-- A decoded instruction's operands fit their fields, where the align code is one of 16 symbols (R112). -/
theorem decode_wellFormed (ha : ∀ H, c.align = some H → H.builtFor Config.alignSize) {bits : List Bool} {i : Instr} {n : Nat}
    (h : decode c bits = .ok i n) : i.wellFormed c.params = true := by
  unfold Instr.wellFormed
  rcases decode_cases h with ⟨hf, ho, hc⟩ | ⟨v, m, ops, k, hr, ho⟩
  · rw [hf, ho]
    rcases hc with hc | hc <;> rw [hc] <;> rfl
  · obtain ⟨hf, hs, hops⟩ := ofRow_inv ho
    have hh := readFields_hold ha hr
    rw [hf, hs, hops _ hh]
    exact hh

end

end Sys2Proof
end

section
/-! PROOFS. What each instruction does, by the format of its row: `exec` in terms of the shared operations. -/

namespace Sys2Proof.Machine

/-- The low part that the operand values of a distance slot assemble to (R112, R113). -/
def distLow : List Nat → Nat
  | [] => 0
  | [low] => low
  | high :: lo4 :: _ => Operands.joinLow high lo4

/-- PROPS sets a file up (R290). -/
theorem exec_props {i : Instr} (h : i.format = .props) (s : State) :
    ∃ r0 pow frac r1 v7 solid, exec i s = execProps r0 pow frac r1 v7 solid s := by
  cases i <;> cases h
  exact ⟨_, _, _, _, _, _, rfl⟩

/-- A header row reads its header or, with `num = 3`, is corrupt (R191, R194). -/
theorem exec_blockFlags {i : Instr} (h : i.format = .blockFlags) (s : State) :
    (∃ flags b7m1 last tables cx size, exec i s = readHeader flags b7m1 last tables cx size s) ∨
    exec i s = takeError .corruptedData s := by
  cases i <;> cases h
  case blkhdrNum3 => exact .inr rfl
  all_goals exact .inl ⟨_, _, _, _, _, _, rfl⟩

/-- A first nibble is a level length or the escape to a second (R201). -/
theorem exec_levelNib {i : Instr} (h : i.format = .levelNib) (s : State) :
    (∃ n, exec i s = .next (addLevels 1 n s)) ∨ exec i s = .next { s with phase := .levelNib2 } := by
  cases i <;> cases h
  case lvlEsc => exact .inr rfl
  all_goals exact .inl ⟨_, rfl⟩

/-- A second nibble is the length 15 or a run of zeros (R216, R217). -/
theorem exec_levelNib2 {i : Instr} (h : i.format = .levelNib2) (s : State) :
    ∃ c n, exec i s = .next (addLevels c n s) := by
  cases i <;> cases h <;> exact ⟨_, _, rfl⟩

/-- A level symbol is a length, a run of zeros or a run of the preceding length (R204). -/
theorem exec_levelSym {i : Instr} (h : i.format = .levelSym) (s : State) :
    (∃ c v, exec i s = .next (addLengths c v s)) ∨ ∃ sym e, exec i s = repeatLength sym e s := by
  cases i <;> cases h
  case lvRepS | lvRepL => exact .inr ⟨_, _, rfl⟩
  all_goals exact .inl ⟨_, _, rfl⟩

/-- The elements a main symbol opens (R227). -/
theorem exec_mainSym {i : Instr} (h : i.format = .mainSym) (s : State) :
    (∃ b, exec i s = (putByte b s).outcome) ∨
    exec i s = (beginDescriptor s).outcome ∨
    exec i s = execLastlen s ∨
    (∃ k, exec i s = .next (useRep k s)) ∨
    (∃ slot, exec i s = .next (matchLength slot (i.operands.headD 0) s) ∧ i.symbol = slot + 262 ∧ slot < 44) ∨
    exec i s = takeError .corruptedData s := by
  cases i <;> cases h
  case lit b => exact .inl ⟨b, rfl⟩
  case filter => exact .inr (.inl rfl)
  case lastlen => exact .inr (.inr (.inl rfl))
  case rep0 | rep1 | rep2 | rep3 => exact .inr (.inr (.inr (.inl ⟨_, rfl⟩)))
  case reserved306 | reserved307 | reserved308 | reserved309 | reserved310 | reserved311 =>
    exact .inr (.inr (.inr (.inr (.inr rfl))))
  all_goals exact .inr (.inr (.inr (.inr (.inl ⟨_, rfl, rfl, by decide⟩))))

/-- A length slot ends its REPk (R240). -/
theorem exec_lenSlot {i : Instr} (h : i.format = .lenSlot) (s : State) :
    i.symbol < 44 ∧ exec i s = repLength i.symbol (i.operands.headD 0) s := by
  cases i <;> cases h <;> exact ⟨Nat.le_of_ble_eq_true rfl, rfl⟩

/-- A distance slot ends its MATCH (R244). -/
theorem exec_distSlot {i : Instr} (h : i.format = .distSlot) (s : State) :
    i.symbol < 80 ∧ exec i s = matchDist i.symbol (distLow i.operands) s := by
  cases i <;> cases h
  case distSlot10 lo4 =>
    have hlow : Operands.joinLow 0 lo4 = lo4 := by simp [Operands.joinLow]
    exact ⟨Nat.le_of_ble_eq_true rfl, congrArg (matchDist 10 · s) hlow⟩
  case distSlot11 lo4 =>
    have hlow : Operands.joinLow 0 lo4 = lo4 := by simp [Operands.joinLow]
    exact ⟨Nat.le_of_ble_eq_true rfl, congrArg (matchDist 11 · s) hlow⟩
  all_goals exact ⟨Nat.le_of_ble_eq_true rfl, rfl⟩

/-- A VU32 goes to the descriptor's field (R261, R263). -/
theorem exec_vuSel {i : Instr} (h : i.format = .vuSel) (s : State) : ∃ bs, exec i s = .next (storeVU bs s) := by
  cases i <;> cases h <;> exact ⟨_, rfl⟩

/-- A type ends its descriptor, with at most 32 channels (R263, R271). -/
theorem exec_filterType {i : Instr} (h : i.format = .filterType) (s : State) :
    ∃ row channels, channels ≤ Config.filterChannelsMax ∧ exec i s = .next (registerFilter row channels s) := by
  cases i <;> cases h
  case typeDelta m =>
    have hm : m.toNat + 1 ≤ Config.filterChannelsMax := by
      have := m.isLt
      simp only [Config.filterChannelsMax]
      omega
    exact ⟨0, m.toNat + 1, hm, rfl⟩
  all_goals exact ⟨_, 0, by decide, rfl⟩

end Sys2Proof.Machine
end

section
/-! PROOFS. What a step can do, said once: `Stepped` lists the actions of the machine and `step_cases` says that a step is one of
them. The lemmas about every step are case analyses over it. -/

namespace Sys2Proof.Machine

/-! The reader. -/

/-- From `s` to `u` only the reader has moved (R31, R142, R150), and not backward. -/
structure advanced (s u : State) : Prop where
  frame : u = { s with pc := u.pc, minorError := u.minorError, wasFinished := u.wasFinished }
  forward : s.pc ≤ u.pc

theorem advanced_refl (s : State) : advanced s s := ⟨rfl, Nat.le_refl _⟩

theorem advanced_trans {s u v : State} (h : advanced s u) (h' : advanced u v) : advanced s v := by
  refine ⟨?_, Nat.le_trans h.forward h'.forward⟩
  rw [h'.frame, h.frame]

theorem advanced_prepare {s u : State} (h : prepare s = .ok u) : advanced s u := by
  obtain ⟨-, hu, -⟩ := prepare_ok h
  rw [hu]
  exact ⟨rfl, Nat.le_refl _⟩

/-- Aligning moves to the next byte boundary (R150). -/
theorem advanced_alignToByte (s : State) : advanced s (alignToByte s) := by
  refine ⟨by rw [alignToByte_frame s], ?_⟩
  unfold alignToByte
  split
  · exact Nat.le_refl _
  · simp only [State.byteOff, Nat.shiftRight_eq_div_pow]
    omega

theorem advanced_movePos (s : State) (n : Nat) : advanced s (s.movePos n) := ⟨rfl, Nat.le_add_right ..⟩

theorem advanced.phase {s u : State} (h : advanced s u) : u.phase = s.phase := by rw [h.frame]

/-! Operands. -/

/-- The operand of a length slot fits its extra bits (R111). -/
theorem lenFields_head_lt {slot : Nat} {ops : List Nat} (h : fieldsHold (Operands.lenFields slot) ops = true) :
    ops.headD 0 < 2 ^ Operands.lenExtraBits slot := by
  unfold Operands.lenFields at h
  split at h
  · cases ops with
    | nil => simp
    | cons x xs => simp [fieldsHold] at h
  · cases ops with
    | nil => simp [fieldsHold] at h
    | cons x xs =>
      simp only [fieldsHold, Bool.and_eq_true, Operands.Field.holds, decide_eq_true_eq] at h
      exact h.1

/-- A length slot gives a length of at most 4097 (R229, R232). -/
theorem slotToLen_le {slot x : Nat} (hs : slot < 44) (hx : x < 2 ^ Operands.lenExtraBits slot) :
    Operands.slotToLen slot x ≤ 4097 := by
  have hbase : ∀ k < 44, Operands.lenBase k + 2 ^ Operands.lenExtraBits k ≤ 4096 := by decide
  have := hbase slot hs
  unfold Operands.slotToLen
  omega

/-- The low part of a distance fits the slot's width (R112, R113). -/
theorem distLow_lt {slot : Nat} {ops : List Nat} (hn : Operands.distNumBits slot < 30)
    (h : fieldsHold (Operands.distFields slot) ops = true) : distLow ops < 2 ^ Operands.distNumBits slot := by
  unfold Operands.distFields at h
  split_ifs at h with h1 h2 h3
  · cases ops with
    | nil => simp [distLow]
    | cons x xs => simp [fieldsHold] at h
  · match ops with
    | [x] => simpa [distLow, fieldsHold, Operands.Field.holds] using h
    | [] => simp [fieldsHold] at h
    | _ :: _ :: _ => simp [fieldsHold] at h
  · match ops with
    | [x] =>
      rw [h3]
      simpa [distLow, fieldsHold, Operands.Field.holds] using h
    | [] => simp [fieldsHold] at h
    | _ :: _ :: _ => simp [fieldsHold] at h
  · match ops with
    | [high, lo4] =>
      simp [fieldsHold, Operands.Field.holds] at h
      obtain ⟨hhigh, hlo⟩ := h
      have hw : 2 ^ Operands.distNumBits slot = 2 ^ (Operands.distNumBits slot - 4) * 2 ^ 4 := by
        rw [← Nat.pow_add]
        congr 1
        omega
      rw [hw, distLow, Operands.joinLow, Nat.shiftLeft_eq]
      omega
    | [] => simp [fieldsHold] at h
    | [_] => simp [fieldsHold] at h
    | _ :: _ :: _ :: _ => simp [fieldsHold] at h

/-- A distance slot gives a distance that is not 0 and fits its register (R235, R236). -/
theorem slotToDist_range {slot : Nat} {ops : List Nat} (hs : slot < 80) (h : fieldsHold (Operands.distFields slot) ops = true) :
    1 ≤ Operands.slotToDist slot (distLow ops) ∧ Operands.slotToDist slot (distLow ops) < 2 ^ 32 := by
  unfold Operands.slotToDist
  split
  · decide
  · rename_i hn
    have hbase : ∀ d < 80, Operands.distNumBits d < 30 → Operands.distBase d + 2 ^ Operands.distNumBits d < 2 ^ 32 := by decide
    have hlow := distLow_lt (by omega) h
    have := hbase slot hs (by omega)
    omega

/-! Taking an error. -/

/-- An error taken leaves the state that R340 and R344 describe. -/
theorem takeError_next {k : ErrorKind} {s t : State} (h : takeError k s = .next t) : failedWith k s t := by
  rcases takeError_cases k s with ⟨u, hu, hf⟩ | ⟨r, hr, -⟩
  · rw [hu] at h
    cases h
    exact hf
  · rw [hr] at h
    cases h

/-! The actions of a step. -/

/-- The step from `s` to `t`, by what it does. In the symbol loop the write-step guard has been passed wherever the loop goes on
past its first two tests (R222, R224). What the operands of a length or a distance are good for holds where the align decoder is
one that R205 builds. -/
inductive Stepped (s t : State) : Prop
  | waits (idle : s.phase = .idle) (result : t = s)
  | resets (rest : List Command) (idle : s.phase = .idle) (result : t = resetCall { s with ctrl := rest })
  | called (args : DecodeArgs) (rest : List Command) (r0 : BitVec 3) (pow frac : BitVec 5) (r1 v7 solid : Bool)
      (idle : s.phase = .idle) (result : execProps r0 pow frac r1 v7 solid { s with ctrl := rest, port := args } = .next t)
  | fails (u : State) (k : ErrorKind) (running : s.running) (reader : advanced s u) (result : failedWith k u t)
  | writeStepEnds (phase : s.phase = .symbols) (result : (endWriteStep s).outcome = .next t)
  | inputEnds (u : State) (phase : s.phase = .symbols) (room : s.windowPos < s.limit) (reader : advanced s u)
      (result : (lastFlush true u).outcome = .next t)
  | blockEnds (u : State) (phase : s.phase = .symbols) (room : s.windowPos < s.limit) (reader : advanced s u)
      (result : (endBlock u).outcome = .next t)
  | levelsEnd (phase : s.phase = .levelNib) (all : Config.levelSize ≤ s.lv.length) (result : (levelsDone s).outcome = .next t)
  | tablesEnd (phase : s.phase = .levelSym) (all : s.tableTotal ≤ s.tbl.length) (result : (tablesDone s).outcome = .next t)
  | header (u : State) (flags : Byte) (b7m1 : BitVec 3) (last tables : Bool) (cx : Byte) (size : List Byte)
      (phase : s.phase = .header) (reader : advanced s u) (result : readHeader flags b7m1 last tables cx size u = .next t)
  | levels (u : State) (c n : Nat) (phase : s.phase = .levelNib ∨ s.phase = .levelNib2) (reader : advanced s u)
      (result : t = addLevels c n u)
  | escape (u : State) (phase : s.phase = .levelNib) (reader : advanced s u) (result : t = { u with phase := .levelNib2 })
  | lengths (u : State) (c v : Nat) (phase : s.phase = .levelSym) (reader : advanced s u) (result : t = addLengths c v u)
  | repeats (u : State) (sym e : Nat) (phase : s.phase = .levelSym) (reader : advanced s u)
      (result : repeatLength sym e u = .next t)
  | literal (u : State) (b : Byte) (phase : s.phase = .symbols) (room : s.windowPos < s.limit) (reader : advanced s u)
      (result : (putByte b u).outcome = .next t)
  | descriptor (u : State) (phase : s.phase = .symbols) (room : s.windowPos < s.limit) (reader : advanced s u)
      (result : (beginDescriptor u).outcome = .next t)
  | lastMatch (u : State) (phase : s.phase = .symbols) (room : s.windowPos < s.limit) (reader : advanced s u)
      (result : execLastlen u = .next t)
  | usesRep (u : State) (k : Nat) (phase : s.phase = .symbols) (room : s.windowPos < s.limit) (reader : advanced s u)
      (result : t = useRep k u)
  | matchSlot (u : State) (slot x : Nat) (phase : s.phase = .symbols) (room : s.windowPos < s.limit) (reader : advanced s u)
      (length : s.huff.align.builtFor Config.alignSize → Operands.slotToLen slot x ≤ 4097) (result : t = matchLength slot x u)
  | lenSlot (u : State) (slot x : Nat) (phase : s.phase = .lenSlot) (reader : advanced s u)
      (length : s.huff.align.builtFor Config.alignSize → Operands.slotToLen slot x ≤ 4097) (result : repLength slot x u = .next t)
  | distSlot (u : State) (slot low : Nat) (phase : s.phase = .distSlot) (reader : advanced s u)
      (distance : s.huff.align.builtFor Config.alignSize →
        1 ≤ Operands.slotToDist slot low ∧ Operands.slotToDist slot low < 2 ^ 32)
      (result : matchDist slot low u = .next t)
  | integer (u : State) (bs : List Byte) (phase : s.phase = .vuDelta ∨ s.phase = .vuSize) (reader : advanced s u)
      (result : t = storeVU bs u)
  | filterType (u : State) (row channels : Nat) (phase : s.phase = .filterType) (reader : advanced s u)
      (few : channels ≤ Config.filterChannelsMax) (result : t = registerFilter row channels u)

/-! Before the fetch. -/

/-- `prepare` goes on, or the source fails and the error is taken (R142, R334). -/
theorem prepared_cases (s : State) (k : State → Before) :
    (∃ u, prepare s = .ok u ∧ prepared s k = k u) ∨ prepared s k = .act (takeError .io s) := by
  unfold prepared
  cases h : prepare s with
  | ok u => exact .inl ⟨u, rfl, rfl⟩
  | raised j u =>
    obtain ⟨-, rfl, rfl⟩ := prepare_raised.1 h
    exact .inr rfl
  | fault r => exact absurd h prepare_fault

/-- What stands before the next instruction: an action that is a step of its own, a call's property bytes, or a reader that has moved
to the next field. -/
inductive Stands (s : State) : Before → Prop
  | acts {o : Host.Outcome State Fault Refusal} (steps : ∀ t, o = .next t → Stepped s t) : Stands s (.act o)
  | calls {u : State} {args : DecodeArgs} {rest : List Command} (idle : s.phase = .idle)
      (call : u = { s with ctrl := rest, port := args }) : Stands s (.go u)
  | fetches {u : State} (running : s.running) (reader : advanced s u) (room : s.phase = .symbols → s.windowPos < s.limit) :
      Stands s (.go u)

/-- `prepare` and what follows it. -/
theorem prepared_stands {s : State} {k : State → Before} (hr : s.running)
    (hk : ∀ u, advanced s u → Stands s (k u)) : Stands s (prepared s k) := by
  rcases prepared_cases s k with ⟨u, hu, h⟩ | h <;> rw [h]
  · exact hk u (advanced_prepare hu)
  · exact .acts fun t ht => .fails s .io hr (advanced_refl s) (takeError_next ht)

theorem beforeCall_stands {s : State} (hp : s.phase = .idle) : Stands s (beforeCall s) := by
  unfold beforeCall
  split
  · exact .acts fun t ht => by cases ht; exact .waits hp rfl
  · exact .acts fun t ht => by cases ht; exact .resets _ hp rfl
  · exact .calls hp rfl

theorem beforeSymbol_stands {s : State} (hp : s.phase = .symbols) : Stands s (beforeSymbol s) := by
  unfold beforeSymbol
  split
  · exact .acts fun t ht => .writeStepEnds hp ht
  · rename_i htests
    have hroom : s.windowPos < s.limit := by
      simp only [State.limitReached, Bool.or_eq_true, decide_eq_true_eq, not_or] at htests
      omega
    refine prepared_stands (by simp [hp]) fun u hu => ?_
    split
    · exact .acts fun t ht => .inputEnds u hp hroom hu ht
    · split
      · exact .acts fun t ht => .blockEnds u hp hroom hu ht
      · exact .fetches (by simp [hp]) hu fun _ => hroom

theorem beforeNibble_stands {s : State} (hp : s.phase = .levelNib) : Stands s (beforeNibble s) := by
  unfold beforeNibble
  split
  · rename_i hall
    exact .acts fun t ht => .levelsEnd hp hall ht
  · exact prepared_stands (by simp [hp]) fun u hu => .fetches (by simp [hp]) hu (by simp [hp])

theorem beforeLevelSymbol_stands {s : State} (hp : s.phase = .levelSym) : Stands s (beforeLevelSymbol s) := by
  unfold beforeLevelSymbol
  split
  · rename_i hall
    exact .acts fun t ht => .tablesEnd hp hall ht
  · refine prepared_stands (by simp [hp]) fun u hu => ?_
    split
    · exact .acts fun t ht => .fails u _ (by simp [hp]) hu (takeError_next ht)
    · exact .fetches (by simp [hp]) hu (by simp [hp])

/-- What stands before the next instruction, in every phase. -/
theorem before_stands (s : State) : Stands s (before s) := by
  have fetches {u : State} (hr : s.running) (hn : s.phase ≠ .symbols) (hu : advanced s u) : Stands s (.go u) :=
    .fetches hr hu fun h => absurd h hn
  unfold before
  cases hp : s.phase with
  | idle => exact beforeCall_stands hp
  | symbols => exact beforeSymbol_stands hp
  | levelNib => exact beforeNibble_stands hp
  | levelSym => exact beforeLevelSymbol_stands hp
  | header =>
    exact prepared_stands (by simp [hp]) fun u hu =>
      fetches (by simp [hp]) (by simp [hp]) (advanced_trans hu (advanced_alignToByte u))
  | levelNib2 => exact prepared_stands (by simp [hp]) fun u hu => fetches (by simp [hp]) (by simp [hp]) hu
  | vuDelta => exact prepared_stands (by simp [hp]) fun u hu => fetches (by simp [hp]) (by simp [hp]) hu
  | lenSlot => exact fetches (by simp [hp]) (by simp [hp]) (advanced_refl s)
  | distSlot => exact fetches (by simp [hp]) (by simp [hp]) (advanced_refl s)
  | vuSize => exact fetches (by simp [hp]) (by simp [hp]) (advanced_refl s)
  | filterType => exact fetches (by simp [hp]) (by simp [hp]) (advanced_refl s)

/-! The fetch. -/

/-- The reader's move leaves the context of the next field as it is (R125). -/
theorem advanced.decodeCtx {s u : State} (h : advanced s u) : u.decodeCtx = s.decodeCtx := by rw [h.frame]; rfl

/-- Between transactions the fetch answers the call's property bytes (R290). -/
theorem fetch_idle {s : State} (h : s.phase = .idle) : ∃ i, fetch s = .ok i 16 ∧ i.format = .props := by
  refine ⟨decodeProps (BitVec.ofNat 16 (bitsValue 16 s.fetchBits)), ?_, rfl⟩
  simp only [fetch, State.decodeCtx, h, decode]

/-- The instruction that a running machine fetches, by its phase. -/
theorem exec_stepped {s u t : State} {i : Instr} (hr : s.running) (hu : advanced s u)
    (hroom : s.phase = .symbols → s.windowPos < s.limit) (hf : i.format = s.decodeCtx.fmt)
    (hw : s.huff.align.builtFor Config.alignSize → i.wellFormed s.params = true) (h : exec i u = .next t) : Stepped s t := by
  simp only [State.decodeCtx] at hf
  cases hp : s.phase with rw [hp] at hf
  | idle => exact absurd hp hr
  | header =>
    rcases exec_blockFlags hf u with ⟨flags, b7m1, last, tables, cx, size, he⟩ | he <;> rw [he] at h
    · exact .header u flags b7m1 last tables cx size hp hu h
    · exact .fails u _ hr hu (takeError_next h)
  | levelNib =>
    rcases exec_levelNib hf u with ⟨n, he⟩ | he <;> rw [he] at h <;> cases h
    · exact .levels u 1 n (.inl hp) hu rfl
    · exact .escape u hp hu rfl
  | levelNib2 =>
    obtain ⟨c, n, he⟩ := exec_levelNib2 hf u
    rw [he] at h
    cases h
    exact .levels u c n (.inr hp) hu rfl
  | levelSym =>
    rcases exec_levelSym hf u with ⟨c, v, he⟩ | ⟨sym, e, he⟩ <;> rw [he] at h
    · cases h
      exact .lengths u c v hp hu rfl
    · exact .repeats u sym e hp hu h
  | symbols =>
    have hroom := hroom hp
    rcases exec_mainSym hf u with ⟨b, he⟩ | he | he | ⟨k, he⟩ | ⟨slot, he, hs, hlt⟩ | he <;> rw [he] at h
    · exact .literal u b hp hroom hu h
    · exact .descriptor u hp hroom hu h
    · exact .lastMatch u hp hroom hu h
    · cases h
      exact .usesRep u k hp hroom hu rfl
    · cases h
      refine .matchSlot u slot _ hp hroom hu (fun ha => slotToLen_le hlt (lenFields_head_lt ?_)) rfl
      have hfields := hw ha
      have hm : 262 ≤ slot + 262 ∧ slot + 262 < 306 := by omega
      rwa [Instr.wellFormed, hf, hs, fieldsOf, Operands.mainFields, if_pos hm, Nat.add_sub_cancel] at hfields
    · exact .fails u _ hr hu (takeError_next h)
  | lenSlot =>
    obtain ⟨hlt, he⟩ := exec_lenSlot hf u
    rw [he] at h
    refine .lenSlot u _ _ hp hu (fun ha => slotToLen_le hlt (lenFields_head_lt ?_)) h
    have hfields := hw ha
    rwa [Instr.wellFormed, hf] at hfields
  | distSlot =>
    obtain ⟨hlt, he⟩ := exec_distSlot hf u
    rw [he] at h
    refine .distSlot u _ _ hp hu (fun ha => slotToDist_range hlt ?_) h
    have hfields := hw ha
    rwa [Instr.wellFormed, hf] at hfields
  | vuDelta =>
    obtain ⟨bs, he⟩ := exec_vuSel hf u
    rw [he] at h
    cases h
    exact .integer u bs (.inl hp) hu rfl
  | vuSize =>
    obtain ⟨bs, he⟩ := exec_vuSel hf u
    rw [he] at h
    cases h
    exact .integer u bs (.inr hp) hu rfl
  | filterType =>
    obtain ⟨row, channels, hc, he⟩ := exec_filterType hf u
    rw [he] at h
    cases h
    exact .filterType u row channels hp hu hc rfl

/-- An action of the machine is the whole step. -/
theorem step_act {s : State} {o : Host.Outcome State Fault Refusal} (h : before s = .act o) : step s = o := by
  simp only [step, h]

/-- A step that fetches an instruction moves past its bits and runs it (R85, R31). -/
theorem step_fetched {s u : State} {i : Instr} {n : Nat} (h : before s = .go u) (hi : fetch u = .ok i n) :
    step s = exec i (u.passed n) := by
  simp only [step, h, hi]

/-- A step whose bits are no instruction. -/
theorem step_rejected {s u : State} {r : Reject} {n : Nat} (h : before s = .go u) (hr : fetch u = .rejected r n) :
    step s = rejectedFetch r (u.passed n) := by
  simp only [step, h, hr]

/-- What a running machine does with the bits at its reader. -/
theorem fetched_stepped {s u t : State} (hb : before s = .go u) (hr : s.running) (hu : advanced s u)
    (hroom : s.phase = .symbols → s.windowPos < s.limit) (h : step s = .next t) : Stepped s t := by
  have hpassed (n : Nat) : advanced s (u.passed n) := by
    rw [State.passed, if_neg (by rw [hu.phase]; exact hr)]
    exact advanced_trans hu (advanced_movePos u n)
  cases hi : fetch u with
  | ok i n =>
    rw [step_fetched hb hi] at h
    rw [fetch, hu.decodeCtx] at hi
    refine exec_stepped hr (hpassed n) hroom (decode_format hi) (fun ha => ?_) h
    refine decode_wellFormed (fun H hH => ?_) hi
    simp only [State.decodeCtx] at hH
    split at hH <;> cases hH
    exact ha
  | rejected r n =>
    rw [step_rejected hb hi] at h
    cases r with
    | emptyDecoder => exact .fails _ _ hr (hpassed n) (takeError_next h)
    | noCode => cases h
    | noRow => cases h

/-- WHAT A STEP CAN DO. -/
theorem step_cases {s t : State} (h : step s = .next t) : Stepped s t := by
  have hs := before_stands s
  generalize hb : before s = b at hs
  cases hs with
  | acts steps => exact steps t (by rw [← step_act hb, h])
  | @calls u args rest idle call =>
    have hphase : u.phase = .idle := by rw [call]; exact idle
    obtain ⟨i, hi, hprops⟩ := fetch_idle hphase
    obtain ⟨r0, pow, frac, r1, v7, solid, he⟩ := exec_props hprops u
    rw [step_fetched hb hi, State.passed, if_pos hphase, he, call] at h
    exact .called args rest r0 pow frac r1 v7 solid idle h
  | fetches running reader room => exact fetched_stepped hb running reader room h

end Sys2Proof.Machine
end

section
/-! PROOFS. What each action of a step leads to when it answers a next state: one inversion per action. -/

namespace Sys2Proof.Machine

section
variable {s t : State}

/-- An operation that answers a next state went through, or raised an error that was taken. -/
theorem Flow.outcome_next {x : Flow State} (h : x.outcome = .next t) :
    x = .ok t ∨ ∃ k u, x = .raised k u ∧ failedWith k u t := by
  cases x with
  | ok a => cases h; exact .inl rfl
  | raised k u => exact .inr ⟨k, u, rfl, takeError_next h⟩
  | fault r => cases h

/-- The flush was stopped by the sink, and that error was taken (R301, R334). -/
def sinkStopped (s t : State) : Prop := ∃ k u, flush s = .raised k u ∧ failedWith k u t

/-- A flush and a wrap that went through (R300, steps 5 and 6). -/
def flushedAndWrapped (s v : State) : Prop := ∃ u, flush s = .ok u ∧ wrap u = .ok v

theorem flushAndWrap_ok {v : State} (h : flushAndWrap s = .ok v) : flushedAndWrapped s v := Flow.bind_ok.1 h

theorem flushAndWrap_raised {k : ErrorKind} {u : State} (h : flushAndWrap s = .raised k u) : flush s = .raised k u := by
  rcases Flow.bind_raised.1 h with h | ⟨v, -, h⟩
  · exact h
  · exact absurd h wrap_raised

/-- The final flush ends the file, or the sink stops it (R300, R305). -/
theorem lastFlush_next {byEof : Bool} (h : (lastFlush byEof s).outcome = .next t) :
    (∃ v, flushedAndWrapped s v ∧ t = finish byEof v) ∨ sinkStopped s t := by
  rcases Flow.outcome_next h with h | ⟨k, u, h, hf⟩
  · obtain ⟨v, hv, ht⟩ := Flow.bind_ok.1 h
    cases ht
    exact .inl ⟨v, flushAndWrap_ok hv, rfl⟩
  · rcases Flow.bind_raised.1 h with h | ⟨v, -, h⟩
    · exact .inr ⟨k, u, flushAndWrap_raised h, hf⟩
    · cases h

/-- The end of a write step ends the file or begins the next write step, or the sink stops its flush (R300, R304). -/
theorem endWriteStep_next (h : (endWriteStep s).outcome = .next t) :
    (∃ v, flushedAndWrapped s v ∧ (t = finish false v ∨ t = beginWriteStep v)) ∨ sinkStopped s t := by
  rcases Flow.outcome_next h with h | ⟨k, u, h, hf⟩
  · obtain ⟨v, hv, ht⟩ := Flow.bind_ok.1 h
    split at ht <;> cases ht
    · exact .inl ⟨v, flushAndWrap_ok hv, .inl rfl⟩
    · exact .inl ⟨v, flushAndWrap_ok hv, .inr rfl⟩
  · rcases Flow.bind_raised.1 h with h | ⟨v, -, h⟩
    · exact .inr ⟨k, u, flushAndWrap_raised h, hf⟩
    · split at h <;> cases h

/-- The end of a block is corrupt, ends the file, or goes on to the next header (R222, test 4). -/
theorem endBlock_next (h : (endBlock s).outcome = .next t) :
    failedWith .corruptedData s t ∨ (lastFlush false (alignToByte s)).outcome = .next t ∨
    t = { alignToByte s with phase := .header } := by
  unfold endBlock at h
  split at h
  · exact .inl (takeError_next h)
  · split at h
    · exact .inr (.inl h)
    · cases h
      exact .inr (.inr rfl)

/-- The level lengths are corrupt or build the level decoder (R202, R207). -/
theorem levelsDone_next (h : (levelsDone s).outcome = .next t) :
    failedWith .corruptedData s t ∨
    ∃ H, Huff.build Config.fastLevel .fullOrEmpty s.lv = some H ∧ t = { s with level := H, tbl := [], phase := .levelSym } := by
  unfold levelsDone at h
  split at h
  · exact .inl (takeError_next h)
  · split at h
    · exact .inl (takeError_next h)
    · rename_i H hH
      cases h
      exact .inr ⟨H, hH, rfl⟩

/-- The table lengths are corrupt, before or after the builds, or give the four decoders (R205 to R207, R385). -/
theorem tablesDone_next (h : (tablesDone s).outcome = .next t) :
    failedWith .corruptedData s t ∨
    failedWith .corruptedData { s with huff := Config.decodersAfterFailedBuild s.freeCount, freeCount := s.freeCount + 1 } t ∨
    ∃ main dist align len H b, splitTable s.params s.v7 s.tbl = (main, dist, align, len) ∧
      buildSet main dist align len = some H ∧ t = { s with huff := H, useAlignBits := b, tablesFilled := true, phase := .symbols } := by
  simp only [tablesDone] at h
  split at h
  · exact .inl (takeError_next h)
  · split at h
    · exact .inr (.inl (takeError_next h))
    · rename_i H hH
      cases h
      exact .inr (.inr ⟨_, _, _, _, H, _, rfl, hH, rfl⟩)

/-- A header is corrupt, before or after its block end is committed, or is followed by tables or symbols (R191, R195, R198). -/
theorem readHeader_next {flags cx : Byte} {b7m1 : BitVec 3} {last tables : Bool} {size : List Byte}
    (h : readHeader flags b7m1 last tables cx size s = .next t) :
    failedWith .corruptedData s t ∨ ∃ u, u = commitHeader flags b7m1 last (leValue size) s ∧
      (failedWith .corruptedData u t ∨ t = beginTables u ∨ t = { u with phase := .symbols }) := by
  unfold readHeader at h
  split at h
  · exact .inl (takeError_next h)
  · refine .inr ⟨_, rfl, ?_⟩
    simp only at h
    split at h
    · cases h
      exact .inr (.inl rfl)
    · split at h
      · cases h
        exact .inr (.inr rfl)
      · exact .inl (takeError_next h)

/-- A run of the preceding length is corrupt where there is none (R204). -/
theorem repeatLength_next {sym e : Nat} (h : repeatLength sym e s = .next t) :
    failedWith .corruptedData s t ∨ ∃ c v, t = addLengths c v s := by
  unfold repeatLength at h
  split at h
  · exact .inl (takeError_next h)
  · cases h
    exact .inr ⟨_, _, rfl⟩

/-- A literal is the byte produced (R230). -/
theorem putByte_next {b : Byte} (h : (putByte b s).outcome = .next t) : putByte b s = .ok t := by
  rcases Flow.outcome_next h with h | ⟨k, u, h, -⟩
  · exact h
  · exact absurd h putByte_raised

/-- A match is rejected or copied (R237, R238). -/
theorem copyMatch_next {dist len : Nat} (h : (copyMatch dist len s).outcome = .next t) :
    failedWith .corruptedData s t ∨ copyBytes dist len s = .ok t := by
  rcases copyMatch_cases dist len s with ⟨-, he⟩ | ⟨-, he⟩ <;> rw [he] at h
  · exact .inl (takeError_next h)
  · rcases Flow.outcome_next h with h | ⟨k, u, h, -⟩
    · exact .inr h
    · exact absurd h copyBytes_raised

/-- `LASTLEN` does nothing or is a match of the last length (R239). -/
theorem execLastlen_next (h : execLastlen s = .next t) :
    t = s ∨ failedWith .corruptedData s t ∨ copyBytes s.repDist.r0.toNat s.lastLength s = .ok t := by
  unfold execLastlen at h
  split at h
  · cases h
    exact .inl rfl
  · exact .inr (copyMatch_next h)

/-- A descriptor begins with room in the queue: there was some, a flush made some, or the queue was emptied (R267). -/
theorem beginDescriptor_next (h : (beginDescriptor s).outcome = .next t) :
    sinkStopped s t ∨ ∃ u, t = { u with phase := .vuDelta } ∧
      ((u = s ∧ s.queue.length < Config.filterQueueMax) ∨
        ∃ v, flush s = .ok v ∧
          ((u = v ∧ v.queue.length < Config.filterQueueMax) ∨ u = { v with isUnsupportedFilter := true, queue := [], fb := [] })) := by
  rcases Flow.outcome_next h with h | ⟨k, u, h, hf⟩
  · obtain ⟨u, hu, ht⟩ := Flow.bind_ok.1 h
    cases ht
    refine .inr ⟨u, rfl, ?_⟩
    split at hu
    · obtain ⟨v, hv, hu⟩ := Flow.bind_ok.1 hu
      split at hu <;> cases hu
      · exact .inr ⟨v, hv, .inr rfl⟩
      · exact .inr ⟨u, hv, .inl ⟨rfl, by omega⟩⟩
    · cases hu
      exact .inl ⟨rfl, by omega⟩
  · rcases Flow.bind_raised.1 h with h | ⟨v, -, h⟩
    · split at h
      · rcases Flow.bind_raised.1 h with h | ⟨v, -, h⟩
        · exact .inl ⟨k, u, h, hf⟩
        · split at h <;> cases h
      · cases h
    · cases h

/-- A `decode` call is rejected, or goes on to per-file setup in the window of its chain or in one of its own (R290, R291). -/
theorem execProps_next {r0 : BitVec 3} {pow frac : BitVec 5} {r1 v7 solid : Bool}
    (h : execProps r0 pow frac r1 v7 solid s = .next t) :
    ∃ u, u = latchArgs (Operands.propsWord r0 pow frac r1 v7 solid) s ∧
      (t = rejectProps u ∨ (s.solidContinues = true ∧ t = setupFile true u) ∨
        ∃ ok, t = setupFile ok (freshWindow (Operands.windowSizeOf pow.toNat frac.toNat) u)) := by
  refine ⟨_, rfl, ?_⟩
  simp only [execProps] at h
  split at h
  · cases h
    exact .inl rfl
  · split at h
    · rename_i hsolid
      split at h <;> cases h
      exact .inr (.inl ⟨(Bool.and_eq_true_iff.1 hsolid).2, rfl⟩)
    · cases h
      exact .inr (.inr ⟨_, rfl⟩)

/-- Per-file setup starts the file or ends the call for want of memory (R291, R334). -/
theorem setupFile_cases (ok : Bool) (s : State) : setupFile ok s = startFile s ∨ setupFile ok s = endDecode (.error .outOfMemory) s := by
  unfold setupFile
  split
  · exact .inl rfl
  · exact .inr rfl

/-- An integer of a descriptor goes to one of its two fields, and the next field comes (R263). -/
theorem storeVU_cases (bs : List Byte) (s : State) :
    ∃ p d z, storeVU bs s = { s with phase := p, fltDelta := d, fltSize := z } ∧ (p = .vuSize ∨ p = .filterType) := by
  unfold storeVU
  split
  · exact ⟨_, _, _, rfl, .inr rfl⟩
  · exact ⟨_, _, _, rfl, .inl rfl⟩

/-- A descriptor is dropped, with or without the flag, or queued behind all that came before it (R263 to R268). -/
theorem enqueueFilter_cases (type channels : Nat) (s : State) :
    (∃ b, enqueueFilter type channels s = { s with isUnsupportedFilter := b }) ∨
    ∃ f : FilterEntry, enqueueFilter type channels s = { s with queue := s.queue ++ [f], filterEnd := f.startPos + f.size } ∧
      f.channels = channels ∧ s.filterEnd ≤ f.startPos ∧ s.total ≤ f.startPos ∧ 1 ≤ f.size ∧ f.size ≤ Config.filterSizeMax := by
  simp only [enqueueFilter]
  split_ifs with hover hoverlap hzero
  · exact .inl ⟨_, rfl⟩
  · exact .inl ⟨_, rfl⟩
  · exact .inl ⟨s.isUnsupportedFilter, rfl⟩
  · exact .inr ⟨_, rfl, rfl, by simpa using hoverlap, Nat.le_add_right .., by simp only; omega, by simpa using hover⟩

end

end Sys2Proof.Machine
end

section
/-! PROOFS. What the shared ends of an action leave unchanged, and the reader's position. -/

namespace Sys2Proof.Machine

section
variable {s t : State}

/-- Taking an error changes what a flush may change, the status, the chain and the phase (R340, R344). -/
theorem failedWith_frame {k : ErrorKind} (h : failedWith k s t) :
    t = { s with
      lzWritten := t.lzWritten, snk := t.snk, writtenFileSize := t.writtenFileSize, queue := t.queue, fb := t.fb
      isUnsupportedFilter := t.isUnsupportedFilter, status := s.status ++ [.error k], chainValid := false, phase := .idle } := by
  obtain ⟨u, -, hu, rfl⟩ := h
  rw [hu]

/-- A flush that the sink stops changes no more than taking an error does. -/
theorem sinkStopped_frame (h : sinkStopped s t) :
    t = { s with
      lzWritten := t.lzWritten, snk := t.snk, writtenFileSize := t.writtenFileSize, queue := t.queue, fb := t.fb
      isUnsupportedFilter := t.isUnsupportedFilter, status := t.status, chainValid := false, phase := .idle } := by
  obtain ⟨k, u, hu, hf⟩ := h
  rw [failedWith_frame hf, flush_raised hu]

/-- A flush and a wrap change the output, the queue and the window's place in the stream (R302, R303). -/
theorem flushedAndWrapped_frame (h : flushedAndWrapped s t) :
    t = { s with
      lzWritten := t.lzWritten, snk := t.snk, writtenFileSize := t.writtenFileSize, queue := t.queue, fb := t.fb
      isUnsupportedFilter := t.isUnsupportedFilter, window := t.window, lzSize := t.lzSize, windowPos := t.windowPos } := by
  obtain ⟨u, hu, hw⟩ := h
  rw [(wrap_ok hw).1, flush_ok hu]

end

/-! The input position (R31). -/

section
variable {s t : State}

theorem failedWith_pc {k : ErrorKind} (h : failedWith k s t) : t.pc = s.pc := by rw [failedWith_frame h]

theorem sinkStopped_pc (h : sinkStopped s t) : t.pc = s.pc := by rw [sinkStopped_frame h]

theorem flushedAndWrapped_pc (h : flushedAndWrapped s t) : t.pc = s.pc := by rw [flushedAndWrapped_frame h]

theorem finish_pc (byEof : Bool) (s : State) : (finish byEof s).pc = s.pc := rfl

theorem lastFlush_pc {byEof : Bool} (h : (lastFlush byEof s).outcome = .next t) : t.pc = s.pc := by
  rcases lastFlush_next h with ⟨v, hv, rfl⟩ | hs
  · rw [finish_pc, flushedAndWrapped_pc hv]
  · exact sinkStopped_pc hs

theorem endWriteStep_pc (h : (endWriteStep s).outcome = .next t) : t.pc = s.pc := by
  rcases endWriteStep_next h with ⟨v, hv, rfl | rfl⟩ | hs
  · rw [finish_pc, flushedAndWrapped_pc hv]
  · rw [beginWriteStep_pc, flushedAndWrapped_pc hv]
  · exact sinkStopped_pc hs

/-- Only the end of a block moves the position, to the next byte boundary (R150). -/
theorem endBlock_pc (h : (endBlock s).outcome = .next t) : s.pc ≤ t.pc := by
  have halign := (advanced_alignToByte s).forward
  rcases endBlock_next h with hf | hl | rfl
  · exact (failedWith_pc hf).ge
  · exact halign.trans (lastFlush_pc hl).ge
  · exact halign

theorem levelsDone_pc (h : (levelsDone s).outcome = .next t) : t.pc = s.pc := by
  rcases levelsDone_next h with hf | ⟨H, -, rfl⟩
  · exact failedWith_pc hf
  · rfl

theorem tablesDone_pc (h : (tablesDone s).outcome = .next t) : t.pc = s.pc := by
  rcases tablesDone_next h with hf | hf | ⟨m, d, a, l, H, b, -, -, rfl⟩
  · exact failedWith_pc hf
  · rw [failedWith_pc hf]
  · rfl

theorem readHeader_pc {flags cx : Byte} {b7m1 : BitVec 3} {last tables : Bool} {size : List Byte}
    (h : readHeader flags b7m1 last tables cx size s = .next t) : t.pc = s.pc := by
  rcases readHeader_next h with hf | ⟨u, rfl, hf | rfl | rfl⟩
  · exact failedWith_pc hf
  · rw [failedWith_pc hf, commitHeader_pc]
  · rfl
  · rfl

theorem repeatLength_pc {sym e : Nat} (h : repeatLength sym e s = .next t) : t.pc = s.pc := by
  rcases repeatLength_next h with hf | ⟨c, v, rfl⟩
  · exact failedWith_pc hf
  · rfl

theorem putByte_pc {b : Byte} (h : putByte b s = .ok t) : t.pc = s.pc := by rw [(putByte_ok.1 h).2]

theorem copyBytes_pc {dist n : Nat} (h : copyBytes dist n s = .ok t) : t.pc = s.pc := by rw [(copyBytes_ok h).1]

theorem copyMatch_pc {dist len : Nat} (h : (copyMatch dist len s).outcome = .next t) : t.pc = s.pc := by
  rcases copyMatch_next h with hf | hc
  · exact failedWith_pc hf
  · exact copyBytes_pc hc

theorem execLastlen_pc (h : execLastlen s = .next t) : t.pc = s.pc := by
  rcases execLastlen_next h with rfl | hf | hc
  · rfl
  · exact failedWith_pc hf
  · exact copyBytes_pc hc

theorem beginDescriptor_pc (h : (beginDescriptor s).outcome = .next t) : t.pc = s.pc := by
  rcases beginDescriptor_next h with hs | ⟨u, rfl, ⟨rfl, -⟩ | ⟨v, hv, ⟨rfl, -⟩ | rfl⟩⟩
  · exact sinkStopped_pc hs
  · rfl
  · rw [flush_ok hv]
  · rw [flush_ok hv]

theorem storeVU_pc (bs : List Byte) (s : State) : (storeVU bs s).pc = s.pc := by
  obtain ⟨p, d, z, he, -⟩ := storeVU_cases bs s
  rw [he]

theorem registerFilter_pc (row channels : Nat) (s : State) : (registerFilter row channels s).pc = s.pc := by
  rw [registerFilter, beginWriteStep_pc]
  rcases enqueueFilter_cases (Operands.rowCode s.params row) channels s with ⟨b, he⟩ | ⟨f, he, -⟩ <;> rw [he]

end

/-- Settles O60: every action of a running machine leaves `pc` where the reader has put it, or aligns it to the next byte. -/
theorem pcNeverMovesBackward : Obligations.PcNeverMovesBackward := by
  intro s t hr h
  cases step_cases h with
  | waits idle => exact absurd idle hr
  | resets _ idle => exact absurd idle hr
  | called _ _ _ _ _ _ _ _ idle => exact absurd idle hr
  | fails u k _ reader result => exact reader.forward.trans (failedWith_pc result).ge
  | writeStepEnds _ result => exact (endWriteStep_pc result).ge
  | inputEnds u _ _ reader result => exact reader.forward.trans (lastFlush_pc result).ge
  | blockEnds u _ _ reader result => exact reader.forward.trans (endBlock_pc result)
  | levelsEnd _ _ result => exact (levelsDone_pc result).ge
  | tablesEnd _ _ result => exact (tablesDone_pc result).ge
  | header u _ _ _ _ _ _ _ reader result => exact reader.forward.trans (readHeader_pc result).ge
  | levels u _ _ _ reader result => rw [result]; exact reader.forward
  | escape u _ reader result => rw [result]; exact reader.forward
  | lengths u _ _ _ reader result => rw [result]; exact reader.forward
  | repeats u _ _ _ reader result => exact reader.forward.trans (repeatLength_pc result).ge
  | literal u _ _ _ reader result => exact reader.forward.trans (putByte_pc (putByte_next result)).ge
  | descriptor u _ _ reader result => exact reader.forward.trans (beginDescriptor_pc result).ge
  | lastMatch u _ _ reader result => exact reader.forward.trans (execLastlen_pc result).ge
  | usesRep u _ _ _ reader result => rw [result]; exact reader.forward
  | matchSlot u _ _ _ _ reader _ result => rw [result]; exact reader.forward
  | lenSlot u _ _ _ reader _ result => exact reader.forward.trans (copyMatch_pc result).ge
  | distSlot u _ _ _ reader _ result => exact reader.forward.trans (copyMatch_pc result).ge
  | integer u bs _ reader result =>
    rw [result, storeVU_pc]
    exact reader.forward
  | filterType u row channels _ reader _ result =>
    rw [result, registerFilter_pc]
    exact reader.forward

end Sys2Proof.Machine
end

section
/-! PROOFS. The decoders in use are built from accepted tables (R45, R171, R173): what the builds give, and that every step keeps it. -/

namespace Sys2Proof

/-! Builds. -/

/-- The four decoders are built from accepted tables of their sizes (R45, R205). -/
abbrev HuffSet.builtFor (P : Config.Params) (H : HuffSet) : Prop :=
  H.main.builtFor P.mainSize ∧ H.dist.builtFor Config.distSizeV7 ∧ H.align.builtFor Config.alignSize ∧ H.len.builtFor Config.lenSize

/-- A build that succeeds is of an accepted table (R173). -/
theorem Huff.build_builtFor {F : Nat} {lens : List Nat} {H : Huff} (h : Huff.build F .fullOrEmpty lens = some H) :
    H.builtFor lens.length := by
  unfold Huff.build at h
  split at h <;> cases h
  rename_i ha
  exact ⟨F, lens, rfl, ha, rfl⟩

/-- Absent symbols have no share of the code space. -/
theorem kraftSum_replicate_zero (n : Nat) : kraftSum (List.replicate n 0) = 0 := by
  induction n with
  | zero => rfl
  | succ n ih => simp [List.replicate_succ, kraftSum, ih]

/-- The empty decoder is built from the empty table (R45, R173). -/
theorem Huff.emptyOf_builtFor (F n : Nat) : (Huff.emptyOf F n).builtFor n := by
  refine ⟨F, List.replicate n 0, List.length_replicate, ?_, rfl⟩
  simp [buildAccepts, kraftSum_replicate_zero]

/-- The four builds of a table set, each of its section (R205). -/
theorem Machine.buildSet_builtFor {main dist align len : List Nat} {H : HuffSet} (h : Machine.buildSet main dist align len = some H) :
    H.main.builtFor main.length ∧ H.dist.builtFor dist.length ∧ H.align.builtFor align.length ∧ H.len.builtFor len.length := by
  unfold Machine.buildSet at h
  split at h <;> cases h
  rename_i hm hd ha hl
  exact ⟨Huff.build_builtFor hm, Huff.build_builtFor hd, Huff.build_builtFor ha, Huff.build_builtFor hl⟩

/-- The sections of a whole table have the sizes of their alphabets, a v6 file's distances padded to 80 (R205, R208). -/
theorem Machine.splitTable_lengths {P : Config.Params} {v7 : Bool} {t main dist align len : List Nat}
    (ht : t.length = Operands.tablesSizeSum P v7) (h : Machine.splitTable P v7 t = (main, dist, align, len)) :
    main.length = P.mainSize ∧ dist.length = Config.distSizeV7 ∧ align.length = Config.alignSize ∧ len.length = Config.lenSize := by
  cases h
  cases v7 <;>
    simp [Operands.tablesSizeSum, Config.distSizeV6, Config.distSizeV7, Config.alignSize, Config.lenSize] at ht ⊢ <;>
    omega

end Sys2Proof

namespace Sys2Proof.Machine

/-- After a full reset the four decoders are empty ones (R371). -/
theorem HuffSet.reset_builtFor (P : Config.Params) : (HuffSet.reset P).builtFor P :=
  ⟨Huff.emptyOf_builtFor .., Huff.emptyOf_builtFor .., Huff.emptyOf_builtFor .., Huff.emptyOf_builtFor ..⟩

/-! The invariant. -/

section
variable {s t u : State}

/-- The reader's move keeps the invariant. -/
theorem decodersOk.advance (h : decodersOk s) (hu : advanced s u) : decodersOk u := by
  rw [hu.frame]
  exact { h with }

/-- While a file runs the four decoders are built. -/
theorem decodersOk.built (h : decodersOk s) (hr : s.running) : s.huff.builtFor s.params := h.tables (.inl hr)

/-- Between transactions, with no valid chain, no decoder is in use. -/
theorem decodersOk_of_unchained (hw : t.params.wf = true) (hp : t.phase = .idle) (hc : t.chainValid = false) : decodersOk t where
  params := hw
  tables h := by simp [hp, hc] at h
  level h := by simp [hp] at h
  nibbles h := by simp [hp] at h

/-- Outside the table reader only the four decoders are in use. -/
theorem decodersOk_of_built (hw : t.params.wf = true) (hb : t.huff.builtFor t.params)
    (hp : t.phase ≠ .levelSym ∧ t.phase ≠ .levelNib ∧ t.phase ≠ .levelNib2) : decodersOk t where
  params := hw
  tables _ := hb
  level h := absurd h hp.1
  nibbles h := (h.elim hp.2.1 hp.2.2).elim

/-- What leaves the parameters and the decoders as they are and does not enter the table reader keeps the invariant. -/
theorem decodersOk.outsideTables (h : decodersOk s) (hr : s.running) (hparams : t.params = s.params) (hhuff : t.huff = s.huff)
    (hp : t.phase ≠ .levelSym ∧ t.phase ≠ .levelNib ∧ t.phase ≠ .levelNib2) : decodersOk t := by
  refine decodersOk_of_built ?_ ?_ hp
  · rw [hparams]; exact h.params
  · rw [hparams, hhuff]; exact h.built hr

theorem decodersOk_failedWith {k : ErrorKind} (hw : s.params.wf = true) (h : failedWith k s t) : decodersOk t := by
  rw [failedWith_frame h]
  exact decodersOk_of_unchained hw rfl rfl

theorem decodersOk_sinkStopped (hw : s.params.wf = true) (h : sinkStopped s t) : decodersOk t := by
  rw [sinkStopped_frame h]
  exact decodersOk_of_unchained hw rfl rfl

theorem decodersOk.lastFlush (h : decodersOk s) (hr : s.running) {byEof : Bool} (ht : (lastFlush byEof s).outcome = .next t) :
    decodersOk t := by
  rcases lastFlush_next ht with ⟨v, hv, rfl⟩ | hs
  · have hframe := flushedAndWrapped_frame hv
    exact h.outsideTables hr (by rw [hframe]; rfl) (by rw [hframe]; rfl) ⟨nofun, nofun, nofun⟩
  · exact decodersOk_sinkStopped h.params hs

theorem decodersOk.endWriteStep (h : decodersOk s) (hr : s.running) (ht : (endWriteStep s).outcome = .next t) : decodersOk t := by
  rcases endWriteStep_next ht with ⟨v, hv, rfl | rfl⟩ | hs
  · have hframe := flushedAndWrapped_frame hv
    exact h.outsideTables hr (by rw [hframe]; rfl) (by rw [hframe]; rfl) ⟨nofun, nofun, nofun⟩
  · have hframe := flushedAndWrapped_frame hv
    exact h.outsideTables hr (by rw [hframe]; rfl) (by rw [hframe]; rfl) ⟨nofun, nofun, nofun⟩
  · exact decodersOk_sinkStopped h.params hs

theorem decodersOk.endBlock (h : decodersOk s) (hr : s.running) (ht : (endBlock s).outcome = .next t) : decodersOk t := by
  have hu := advanced_alignToByte s
  have hru : (alignToByte s).running := by rw [State.running, hu.phase]; exact hr
  rcases endBlock_next ht with hf | hl | rfl
  · exact decodersOk_failedWith h.params hf
  · exact (h.advance hu).lastFlush hru hl
  · exact (h.advance hu).outsideTables hru rfl rfl ⟨nofun, nofun, nofun⟩

/-- The level decoder is built from 20 lengths, and no table length has been read (R171, R203). -/
theorem decodersOk.levelsDone (h : decodersOk s) (hp : s.phase = .levelNib) (hall : Config.levelSize ≤ s.lv.length)
    (ht : (levelsDone s).outcome = .next t) : decodersOk t := by
  rcases levelsDone_next ht with hf | ⟨H, hH, rfl⟩
  · exact decodersOk_failedWith h.params hf
  · have hlen : s.lv.length = Config.levelSize := Nat.le_antisymm (h.nibbles (.inl hp)) hall
    exact {
      params := h.params
      tables := fun _ => h.built (by simp [hp])
      level := fun _ => ⟨hlen ▸ Huff.build_builtFor hH, Nat.zero_le _⟩
      nibbles := nofun }

/-- The four decoders are built from the sections of a whole table (R203, R205). -/
theorem decodersOk.tablesDone (h : decodersOk s) (hp : s.phase = .levelSym) (hall : s.tableTotal ≤ s.tbl.length)
    (ht : (tablesDone s).outcome = .next t) : decodersOk t := by
  rcases tablesDone_next ht with hf | hf | ⟨main, dist, align, len, H, b, hsplit, hset, rfl⟩
  · exact decodersOk_failedWith h.params hf
  · exact decodersOk_failedWith (by exact h.params) hf
  · have hlen : s.tbl.length = s.tableTotal := Nat.le_antisymm (h.level hp).2 hall
    obtain ⟨hm, hd, ha, hl⟩ := splitTable_lengths hlen hsplit
    have hbuilt := buildSet_builtFor hset
    rw [hm, hd, ha, hl] at hbuilt
    exact decodersOk_of_built h.params hbuilt ⟨nofun, nofun, nofun⟩

theorem decodersOk.readHeader (h : decodersOk s) (hr : s.running) {flags cx : Byte} {b7m1 : BitVec 3} {last tables : Bool}
    {size : List Byte} (ht : readHeader flags b7m1 last tables cx size s = .next t) : decodersOk t := by
  rcases readHeader_next ht with hf | ⟨u, rfl, hf | rfl | rfl⟩
  · exact decodersOk_failedWith h.params hf
  · exact decodersOk_failedWith (by exact h.params) hf
  · exact {
      params := h.params
      tables := fun _ => h.built hr
      level := nofun
      nibbles := fun _ => Nat.zero_le _ }
  · exact h.outsideTables hr rfl rfl ⟨nofun, nofun, nofun⟩

/-- Level lengths are cut at 20 (R201). -/
theorem decodersOk.addLevels (h : decodersOk s) (hp : s.phase = .levelNib ∨ s.phase = .levelNib2) (c n : Nat) :
    decodersOk (addLevels c n s) where
  params := h.params
  tables _ := h.built (by rcases hp with hp | hp <;> simp [hp])
  level := nofun
  nibbles _ := by
    have := h.nibbles hp
    simp only [addLevels_lv, List.length_append, List.length_replicate]
    omega

/-- Table lengths are cut at the table's end (R203). -/
theorem decodersOk.addLengths (h : decodersOk s) (hp : s.phase = .levelSym) (c v : Nat) : decodersOk (addLengths c v s) where
  params := h.params
  tables _ := h.built (by simp [hp])
  level _ := by
    obtain ⟨hlevel, hlen⟩ := h.level hp
    refine ⟨hlevel, ?_⟩
    have htotal : (Machine.addLengths c v s).tableTotal = s.tableTotal := rfl
    simp only [addLengths_tbl, List.length_append, List.length_replicate, htotal]
    omega
  nibbles h := by simp [hp] at h

theorem decodersOk.repeatLength (h : decodersOk s) (hp : s.phase = .levelSym) {sym e : Nat} (ht : repeatLength sym e s = .next t) :
    decodersOk t := by
  rcases repeatLength_next ht with hf | ⟨c, v, rfl⟩
  · exact decodersOk_failedWith h.params hf
  · exact h.addLengths hp c v

/-- Bytes copied leave the decoders alone. -/
theorem decodersOk.copyBytes (h : decodersOk s) (hp : s.phase = .symbols) {dist n : Nat} (ht : copyBytes dist n s = .ok t) :
    decodersOk t := by
  have hframe := (copyBytes_ok ht).1
  exact h.outsideTables (by simp [hp]) (by rw [hframe]) (by rw [hframe]) (by rw [hframe]; simp [hp])

theorem decodersOk.copyMatch (h : decodersOk s) (hp : s.phase = .symbols) {dist len : Nat}
    (ht : (copyMatch dist len s).outcome = .next t) : decodersOk t := by
  rcases copyMatch_next ht with hf | hc
  · exact decodersOk_failedWith h.params hf
  · exact h.copyBytes hp hc

theorem decodersOk.execLastlen (h : decodersOk s) (hp : s.phase = .symbols) (ht : execLastlen s = .next t) : decodersOk t := by
  rcases execLastlen_next ht with rfl | hf | hc
  · exact h
  · exact decodersOk_failedWith h.params hf
  · exact h.copyBytes hp hc

theorem decodersOk.beginDescriptor (h : decodersOk s) (hr : s.running) (ht : (beginDescriptor s).outcome = .next t) :
    decodersOk t := by
  rcases beginDescriptor_next ht with hs | ⟨u, rfl, ⟨rfl, -⟩ | ⟨v, hv, ⟨rfl, -⟩ | rfl⟩⟩
  · exact decodersOk_sinkStopped h.params hs
  · exact h.outsideTables hr rfl rfl ⟨nofun, nofun, nofun⟩
  · exact h.outsideTables hr (by rw [flush_ok hv]) (by rw [flush_ok hv]) ⟨nofun, nofun, nofun⟩
  · exact h.outsideTables hr (by rw [flush_ok hv]) (by rw [flush_ok hv]) ⟨nofun, nofun, nofun⟩

theorem decodersOk.storeVU (h : decodersOk s) (hr : s.running) (bs : List Byte) : decodersOk (storeVU bs s) := by
  obtain ⟨p, d, z, he, hp⟩ := storeVU_cases bs s
  rw [he]
  exact h.outsideTables hr rfl rfl (by rcases hp with rfl | rfl <;> exact ⟨nofun, nofun, nofun⟩)

theorem decodersOk.registerFilter (h : decodersOk s) (hr : s.running) (row channels : Nat) :
    decodersOk (registerFilter row channels s) := by
  rw [Machine.registerFilter]
  rcases enqueueFilter_cases (Operands.rowCode s.params row) channels s with ⟨b, he⟩ | ⟨f, he, -⟩ <;> rw [he] <;>
    exact h.outsideTables hr rfl rfl ⟨nofun, nofun, nofun⟩

/-- A file that starts uses the decoders it finds. -/
theorem decodersOk_setupFile (ok : Bool) (hw : s.params.wf = true) (hb : s.huff.builtFor s.params) : decodersOk (setupFile ok s) := by
  rcases setupFile_cases ok s with he | he <;> rw [he]
  · exact decodersOk_of_built hw hb ⟨nofun, nofun, nofun⟩
  · exact decodersOk_of_unchained hw rfl rfl

/-- A continued chain keeps its decoders, any other file starts with empty ones (R291, R292). -/
theorem decodersOk.execProps (h : decodersOk s) {r0 : BitVec 3} {pow frac : BitVec 5} {r1 v7 solid : Bool}
    (ht : execProps r0 pow frac r1 v7 solid s = .next t) : decodersOk t := by
  obtain ⟨u, rfl, rfl | ⟨hsolid, rfl⟩ | ⟨ok, rfl⟩⟩ := execProps_next ht
  · exact decodersOk_of_unchained h.params rfl rfl
  · have hchain : s.chainValid = true := (Bool.and_eq_true_iff.1 hsolid).1
    exact decodersOk_setupFile true h.params (h.tables (.inr hchain))
  · exact decodersOk_setupFile ok h.params (HuffSet.reset_builtFor s.params)

end

/-- Settles O56: only the two ends of the table reader and per-file setup give decoders, each built from an accepted table. -/
theorem stepKeepsDecodersOk : Obligations.StepKeepsDecodersOk := by
  intro s t hs h
  have running {u : State} {p : Phase} (hu : advanced s u) (hp : s.phase = p) (hn : p ≠ .idle) : u.running := by
    rw [State.running, hu.phase, hp]
    exact hn
  cases step_cases h with
  | waits _ result => rwa [result]
  | resets rest idle result =>
    rw [result]
    exact decodersOk_of_unchained hs.params idle rfl
  | called args rest _ _ _ _ _ _ idle result =>
    have hcall : decodersOk { s with ctrl := rest, port := args } := { hs with }
    exact hcall.execProps result
  | fails u k _ reader result => exact decodersOk_failedWith (hs.advance reader).params result
  | writeStepEnds phase result => exact hs.endWriteStep (by simp [phase]) result
  | inputEnds u phase _ reader result => exact (hs.advance reader).lastFlush (running reader phase nofun) result
  | blockEnds u phase _ reader result => exact (hs.advance reader).endBlock (running reader phase nofun) result
  | levelsEnd phase all result => exact hs.levelsDone phase all result
  | tablesEnd phase all result => exact hs.tablesDone phase all result
  | header u _ _ _ _ _ _ phase reader result => exact (hs.advance reader).readHeader (running reader phase nofun) result
  | levels u c n phase reader result =>
    rw [result]
    exact (hs.advance reader).addLevels (by rwa [reader.phase]) c n
  | escape u phase reader result =>
    have hu := hs.advance reader
    rw [result]
    exact {
      params := hu.params
      tables := fun _ => hu.built (running reader phase nofun)
      level := nofun
      nibbles := fun _ => hu.nibbles (.inl (reader.phase.trans phase)) }
  | lengths u c v phase reader result =>
    rw [result]
    exact (hs.advance reader).addLengths (reader.phase.trans phase) c v
  | repeats u _ _ phase reader result => exact (hs.advance reader).repeatLength (reader.phase.trans phase) result
  | literal u b phase _ reader result =>
    have hframe := (putByte_ok.1 (putByte_next result)).2
    exact (hs.advance reader).outsideTables (running reader phase nofun) (by rw [hframe]) (by rw [hframe])
      (by rw [hframe]; simp [reader.phase.trans phase])
  | descriptor u phase _ reader result => exact (hs.advance reader).beginDescriptor (running reader phase nofun) result
  | lastMatch u phase _ reader result => exact (hs.advance reader).execLastlen (reader.phase.trans phase) result
  | usesRep u k phase _ reader result =>
    rw [result]
    exact (hs.advance reader).outsideTables (running reader phase nofun) rfl rfl ⟨nofun, nofun, nofun⟩
  | matchSlot u _ _ phase _ reader _ result =>
    rw [result]
    exact (hs.advance reader).outsideTables (running reader phase nofun) rfl rfl ⟨nofun, nofun, nofun⟩
  | lenSlot u _ _ phase reader _ result =>
    refine decodersOk.copyMatch ?_ rfl result
    exact (hs.advance reader).outsideTables (running reader phase nofun) rfl rfl ⟨nofun, nofun, nofun⟩
  | distSlot u _ _ phase reader _ result =>
    refine decodersOk.copyMatch ?_ rfl result
    exact (hs.advance reader).outsideTables (running reader phase nofun) rfl rfl ⟨nofun, nofun, nofun⟩
  | integer u bs phase reader result =>
    rw [result]
    exact (hs.advance reader).storeVU (phase.elim (running reader · nofun) (running reader · nofun)) bs
  | filterType u row channels phase reader _ result =>
    rw [result]
    exact (hs.advance reader).registerFilter (running reader phase nofun) row channels

end Sys2Proof.Machine
end

section
/-! PROOFS. The pending-filter queue and the bytes collected for its head (R47, R265, R267, R302): what a flush makes of them, and
that every step keeps the invariant. -/

namespace Sys2Proof.Machine

/-! What a flush works on. -/

/-- The part of the queue's invariant that a flush needs and keeps: it says nothing of the phase and of the queue's length. -/
structure pendingOk (s : State) : Prop where
  ordered : s.queue.Pairwise fun f g => f.startPos + f.size ≤ g.startPos
  entries : ∀ f ∈ s.queue,
    1 ≤ f.size ∧ f.size ≤ Config.filterSizeMax ∧ f.channels ≤ Config.filterChannelsMax ∧ f.startPos + f.size ≤ s.filterEnd
  nothing : s.queue = [] → s.fb = []
  head : ∀ f rest, s.queue = f :: rest → s.fb.length = s.lzWritten - f.startPos ∧ s.fb.length < f.size
  written : s.lzWritten ≤ s.total

theorem queueOk.pending {s : State} (h : queueOk s) : pendingOk s where
  ordered := h.ordered
  entries := h.entries
  nothing hq := by
    have hc := h.collecting
    rw [hq] at hc
    exact hc
  head f rest hq := by
    have hc := h.collecting
    rw [hq] at hc
    exact hc
  written := h.written

theorem queueOk_of_pending {s : State} (h : pendingOk s) (hb : s.queue.length ≤ Config.filterQueueMax)
    (hr : s.phase = .vuDelta ∨ s.phase = .vuSize ∨ s.phase = .filterType → s.queue.length < Config.filterQueueMax) : queueOk s where
  bound := hb
  roomInside := hr
  ordered := h.ordered
  entries := h.entries
  collecting := by
    split
    · rename_i hq
      exact h.nothing hq
    · rename_i f rest hq
      exact h.head f rest hq
  written := h.written

/-- From `s` to `t` a flush has moved on, and what is pending is in order. -/
structure flushesTo (s t : State) : Prop where
  pending : pendingOk t
  onward : s.lzWritten ≤ t.lzWritten
  shorter : t.queue.length ≤ s.queue.length

theorem flushesTo_refl {s : State} (h : pendingOk s) : flushesTo s s := ⟨h, Nat.le_refl _, Nat.le_refl _⟩

theorem flushesTo_trans {s t u : State} (h : flushesTo s t) (h' : flushesTo t u) : flushesTo s u :=
  ⟨h'.pending, h.onward.trans h'.onward, h'.shorter.trans h.shorter⟩

/-- A flush from `s` up to LZ coordinate `total`: however it ends what is pending is in order, and one that goes through reaches
`total`. -/
def settles (total : Nat) (s : State) (x : Flow State) : Prop :=
  match x with
  | .ok t => flushesTo s t ∧ t.lzWritten = total
  | .raised _ t => flushesTo s t
  | .fault _ => True

theorem settles_trans {total : Nat} {s t : State} {x : Flow State} (h : flushesTo s t) (hx : settles total t x) :
    settles total s x := by
  cases x with
  | ok u => exact ⟨flushesTo_trans h hx.1, hx.2⟩
  | raised k u => exact flushesTo_trans h hx
  | fault r => trivial

/-! The turns of the flush (R302). -/

section
variable {s : State}

/-- Emitting plain bytes moves `lzWritten` there, or the sink stops it. -/
theorem emitPlain_cases (e : Nat) (s : State) :
    (∃ k w, emitPlain e s = .ok { s with snk := k, writtenFileSize := w, lzWritten := e }) ∨
    (∃ k, emitPlain e s = .raised .io { s with snk := k }) ∨ ∃ r, emitPlain e s = .fault r := by
  unfold emitPlain
  cases hw : winBytes s e with
  | ok bs =>
    rcases sinkWrite_cases bs s with ⟨k, h, -⟩ | ⟨k, h⟩ <;> simp only [Flow.bind, h]
    · exact .inl ⟨_, _, rfl⟩
    · exact .inr (.inl ⟨_, rfl⟩)
  | raised k u => exact absurd hw windowRange_raised
  | fault r => exact .inr (.inr ⟨r, rfl⟩)

/-- Collecting adds the bytes between `lzWritten` and its new place. -/
theorem collect_cases (e : Nat) (s : State) :
    (∃ bs : List Byte, bs.length = e - s.lzWritten ∧ collect e s = .ok { s with fb := s.fb ++ bs, lzWritten := e }) ∨
    ∃ r, collect e s = .fault r := by
  unfold collect
  cases hw : winBytes s e with
  | ok bs => exact .inl ⟨bs, (windowRange_ok.1 hw).1, rfl⟩
  | raised k u => exact absurd hw windowRange_raised
  | fault r => exact .inr ⟨r, rfl⟩

/-- Running a filter takes it off the queue, with what was collected for it, even where the sink stops its output (log 6). -/
theorem runFilter_cases (f : FilterEntry) (rest : List FilterEntry) (s : State) :
    ∃ b k w, let t : State := { s with queue := rest, fb := [], isUnsupportedFilter := b, snk := k, writtenFileSize := w }
      runFilter f rest s = .ok t ∨ runFilter f rest s = .raised .io t := by
  unfold runFilter
  rcases sinkWrite_cases (applyFilter s.params f (f.startPos - s.lzFileStart) s.fb)
    { s with queue := rest, fb := [], isUnsupportedFilter := s.isUnsupportedFilter || !(Operands.filterKnown s.params f.type.toNat) } with
    ⟨k, h, -⟩ | ⟨k, h⟩ <;> rw [h]
  · exact ⟨_, _, _, .inl rfl⟩
  · exact ⟨_, _, _, .inr rfl⟩

/-- Plain bytes up to the first region leave nothing collected for it. -/
theorem pendingOk.emitted (h : pendingOk s) {e : Nat} (hle : s.lzWritten ≤ e) (he : e ≤ s.total)
    (hbefore : ∀ f rest, s.queue = f :: rest → e ≤ f.startPos) (k : Sink) (w : Nat) :
    flushesTo s { s with snk := k, writtenFileSize := w, lzWritten := e } where
  pending := {
    ordered := h.ordered
    entries := h.entries
    nothing := h.nothing
    head := fun f rest hq => by
      have hhead := h.head f rest hq
      have hb := hbefore f rest hq
      refine ⟨?_, hhead.2⟩
      simp only
      omega
    written := he }
  onward := hle
  shorter := Nat.le_refl _

/-- A sink that stops leaves what is pending alone. -/
theorem pendingOk.stopped (h : pendingOk s) (k : Sink) : flushesTo s { s with snk := k } :=
  ⟨{ h with }, Nat.le_refl _, Nat.le_refl _⟩

/-- Bytes collected inside the head's region, as long as it is not complete. -/
theorem pendingOk.collected (h : pendingOk s) {f : FilterEntry} {rest : List FilterEntry} (hq : s.queue = f :: rest)
    (hstart : f.startPos ≤ s.lzWritten) {e : Nat} (hle : s.lzWritten ≤ e) (he : e ≤ s.total) (hinside : e < f.startPos + f.size)
    {bs : List Byte} (hbs : bs.length = e - s.lzWritten) : flushesTo s { s with fb := s.fb ++ bs, lzWritten := e } where
  pending := {
    ordered := h.ordered
    entries := h.entries
    nothing := fun hn => by
      have hn' : s.queue = [] := hn
      rw [hq] at hn'
      cases hn'
    head := fun g rest' hg => by
      have hg' : f :: rest = g :: rest' := hq.symm.trans hg
      cases hg'
      have hhead := h.head f rest hq
      simp only [List.length_append]
      omega
    written := he }
  onward := hle
  shorter := Nat.le_refl _

/-- Once the head's region is complete it leaves the queue, and nothing has been collected for the next one. -/
theorem pendingOk.filtered (h : pendingOk s) {f : FilterEntry} {rest : List FilterEntry} (hq : s.queue = f :: rest)
    (hle : s.lzWritten ≤ f.startPos + f.size) (he : f.startPos + f.size ≤ s.total) (b : Bool) (k : Sink) (w : Nat) :
    flushesTo s { s with
      lzWritten := f.startPos + f.size, queue := rest, fb := [], isUnsupportedFilter := b, snk := k, writtenFileSize := w } := by
  have hordered := h.ordered
  have hentries := h.entries
  rw [hq] at hordered hentries
  obtain ⟨hfirst, hrest⟩ := List.pairwise_cons.1 hordered
  refine ⟨⟨hrest, fun g hg => hentries g (List.mem_cons_of_mem _ hg), fun _ => rfl, fun g rest' hg => ?_, he⟩, hle, ?_⟩
  · have hg' : rest = g :: rest' := hg
    have hmem : g ∈ rest := by rw [hg']; exact List.mem_cons_self
    have hgap := hfirst g hmem
    have hsize := hentries g (List.mem_cons_of_mem _ hmem)
    simp only [List.length_nil]
    omega
  · rw [hq]
    exact Nat.le_succ _

/-- The bytes before the head's region are moved (R302): then the region's start is reached, or `total`. -/
theorem flush_beforeRegion {total : Nat} {f : FilterEntry} {rest : List FilterEntry} (h : pendingOk s) (hq : s.queue = f :: rest)
    (ht : s.total = total) (hlt : s.lzWritten < total) :
    let x := if s.lzWritten < f.startPos then emitPlain (min total f.startPos) s else Flow.ok s
    (∃ u, x = .ok u ∧ flushesTo s u ∧ u.queue = f :: rest ∧ u.total = total ∧ (u.lzWritten < total → f.startPos ≤ u.lzWritten)) ∨
    (∃ k u, x = .raised k u ∧ flushesTo s u) ∨ ∃ r, x = .fault r := by
  simp only
  split
  · have hbefore : ∀ g rest', s.queue = g :: rest' → min total f.startPos ≤ g.startPos := fun g rest' hg => by
      have hg' : f :: rest = g :: rest' := hq.symm.trans hg
      cases hg'
      exact Nat.min_le_right ..
    rcases emitPlain_cases (min total f.startPos) s with ⟨k, w, he⟩ | ⟨k, he⟩ | ⟨r, he⟩
    · exact .inl ⟨_, he, h.emitted (by omega) (by omega) hbefore k w, hq, ht, fun hu => by simp only at hu ⊢; omega⟩
    · exact .inr (.inl ⟨_, _, he, h.stopped k⟩)
    · exact .inr (.inr ⟨r, he⟩)
  · exact .inl ⟨s, rfl, flushesTo_refl h, hq, ht, fun _ => by omega⟩

/-- The loop of the flush, on what is pending (R302). -/
theorem flushQueue_settles {total : Nat} {q : List FilterEntry} (h : pendingOk s) (hq : s.queue = q) (ht : s.total = total) :
    settles total s (flushQueue total q s) := by
  induction q generalizing s with
  | nil =>
    unfold flushQueue
    split
    · rcases emitPlain_cases total s with ⟨k, w, he⟩ | ⟨k, he⟩ | ⟨r, he⟩ <;> rw [he]
      · exact ⟨h.emitted (by omega) ht.ge (fun f rest hn => by rw [hq] at hn; cases hn) k w, rfl⟩
      · exact h.stopped k
      · trivial
    · have hw := h.written
      exact ⟨flushesTo_refl h, by omega⟩
  | cons f rest ih =>
    have hw := h.written
    unfold flushQueue
    split
    · exact ⟨flushesTo_refl h, by omega⟩
    · rename_i hlt
      rcases flush_beforeRegion h hq ht (by omega) with ⟨u, hx, hu, huq, hut, hustart⟩ | ⟨k, u, hx, hu⟩ | ⟨r, hx⟩ <;>
        simp only [hx, Flow.bind]
      · refine settles_trans hu ?_
        have huw := hu.pending.written
        split
        · exact ⟨flushesTo_refl hu.pending, by omega⟩
        · rename_i hult
          have hstart := hustart (by omega)
          have huhead := hu.pending.head f rest huq
          rcases collect_cases (min total (f.startPos + f.size)) u with ⟨bs, hbs, hc⟩ | ⟨r, hc⟩ <;> simp only [hc]
          · have hlen : (u.fb ++ bs).length = min total (f.startPos + f.size) - f.startPos := by
              rw [List.length_append]
              omega
            split
            · rename_i hfull
              have hend : min total (f.startPos + f.size) = f.startPos + f.size := by omega
              have hdone (b : Bool) (k : Sink) (w : Nat) := hu.pending.filtered huq (by omega) (by omega) b k w
              rw [hend]
              obtain ⟨b, k, w, hr | hr⟩ := runFilter_cases f rest { u with fb := u.fb ++ bs, lzWritten := f.startPos + f.size } <;>
                simp only [hr]
              · exact settles_trans (hdone b k w) (ih (hdone b k w).pending rfl hut)
              · exact hdone b k w
            · rename_i hpart
              have hinside : min total (f.startPos + f.size) < f.startPos + f.size := by omega
              exact ⟨hu.pending.collected huq hstart (by omega) (by omega) hinside hbs, by simp only; omega⟩
          · trivial
      · exact hu
      · trivial

/-- A flush, on what is pending. -/
theorem flush_settles (h : pendingOk s) : settles s.total s (flush s) := flushQueue_settles h rfl rfl

/-- A flush that goes through reaches the next LZ coordinate (R302). -/
theorem pendingOk.flush_ok (h : pendingOk s) {t : State} (ht : flush s = .ok t) : flushesTo s t ∧ t.lzWritten = s.total := by
  have := flush_settles h
  rw [ht] at this
  exact this

/-- A flush that the sink stops leaves what is pending in order (log 6). -/
theorem pendingOk.flush_raised (h : pendingOk s) {k : ErrorKind} {t : State} (ht : flush s = .raised k t) : flushesTo s t := by
  have := flush_settles h
  rw [ht] at this
  exact this

/-- A flush, however it ends. -/
theorem pendingOk.flushedTo (h : pendingOk s) {t : State} (ht : flushedTo s t) : flushesTo s t := by
  rcases ht with ht | ⟨k, ht⟩
  · exact (h.flush_ok ht).1
  · exact h.flush_raised ht

end

/-! The invariant. -/

section
variable {s t u : State}

/-- What leaves the queue, the buffer and `lzWritten` as they are, and does not move the next LZ coordinate back. -/
theorem pendingOk.unchanged (h : pendingOk s) (hq : t.queue = s.queue) (hfb : t.fb = s.fb) (he : t.filterEnd = s.filterEnd)
    (hw : t.lzWritten = s.lzWritten) (ht : s.total ≤ t.total) : pendingOk t where
  ordered := by rw [hq]; exact h.ordered
  entries := by rw [hq, he]; exact h.entries
  nothing := by rw [hq, hfb]; exact h.nothing
  head := by rw [hq, hfb, hw]; exact h.head
  written := by rw [hw]; exact h.written.trans ht

/-- The phase is one inside a filter descriptor (R263). -/
abbrev State.inDescriptor (s : State) : Prop := s.phase = .vuDelta ∨ s.phase = .vuSize ∨ s.phase = .filterType

/-- The same, for the whole invariant, outside a descriptor. -/
theorem queueOk.outsideDescriptor (h : queueOk s) (hp : ¬t.inDescriptor) (hq : t.queue = s.queue) (hfb : t.fb = s.fb)
    (he : t.filterEnd = s.filterEnd) (hw : t.lzWritten = s.lzWritten) (ht : s.total ≤ t.total) : queueOk t :=
  queueOk_of_pending (h.pending.unchanged hq hfb he hw ht) (by rw [hq]; exact h.bound) (absurd · hp)

/-- The same, with room for one more entry, in every phase. -/
theorem pendingOk.withRoom (h : pendingOk s) (hroom : s.queue.length < Config.filterQueueMax) (hq : t.queue = s.queue)
    (hfb : t.fb = s.fb) (he : t.filterEnd = s.filterEnd) (hw : t.lzWritten = s.lzWritten) (ht : s.total ≤ t.total) : queueOk t :=
  queueOk_of_pending (h.unchanged hq hfb he hw ht) (by rw [hq]; exact hroom.le) fun _ => by rw [hq]; exact hroom

/-- The reader's move keeps the invariant. -/
theorem queueOk.advance (h : queueOk s) (hu : advanced s u) : queueOk u := by
  rw [hu.frame]
  exact { h with }

/-- An empty queue with nothing collected, nothing being left to write. -/
theorem queueOk_of_empty (hq : t.queue = []) (hfb : t.fb = []) (hw : t.lzWritten ≤ t.total) : queueOk t := by
  have hp : pendingOk t := by
    refine ⟨?_, ?_, fun _ => hfb, ?_, hw⟩ <;> rw [hq]
    · exact List.Pairwise.nil
    · exact nofun
    · exact nofun
  exact queueOk_of_pending hp (by rw [hq]; exact Nat.zero_le _) (by rw [hq]; exact fun _ => by decide)

/-- What a flush and then steps that leave the queue alone have made of a state outside a descriptor. -/
theorem queueOk.flushed (h : queueOk s) (hu : flushesTo s u) (hp : ¬t.inDescriptor) (hq : t.queue = u.queue) (hfb : t.fb = u.fb)
    (he : t.filterEnd = u.filterEnd) (hw : t.lzWritten = u.lzWritten) (ht : u.total ≤ t.total) : queueOk t :=
  queueOk_of_pending (hu.pending.unchanged hq hfb he hw ht) (by rw [hq]; exact hu.shorter.trans h.bound) (absurd · hp)

theorem queueOk.failedWith (h : queueOk s) {k : ErrorKind} (ht : failedWith k s t) : queueOk t := by
  obtain ⟨u, hu, -, rfl⟩ := ht
  exact h.flushed (h.pending.flushedTo hu) (by simp) rfl rfl rfl rfl (Nat.le_refl _)

/-- A flush that the sink stops, and the second flush that taking its error makes (R340, R341). -/
theorem queueOk.sinkStopped (h : queueOk s) (ht : sinkStopped s t) : queueOk t := by
  obtain ⟨k, u, hu, v, hv, -, rfl⟩ := ht
  have hsu := h.pending.flush_raised hu
  exact h.flushed (flushesTo_trans hsu (hsu.pending.flushedTo hv)) (by simp) rfl rfl rfl rfl (Nat.le_refl _)

/-- A flush and a wrap that went through have written everything, and the wrap keeps the next LZ coordinate (R302, R303). -/
theorem queueOk.flushedAndWrapped (h : queueOk s) (hv : flushedAndWrapped s u) (hp : ¬t.inDescriptor) (hq : t.queue = u.queue)
    (hfb : t.fb = u.fb) (he : t.filterEnd = u.filterEnd) (hw : t.lzWritten = u.lzWritten) (ht : u.total ≤ t.total) : queueOk t := by
  obtain ⟨v, hf, hwrap⟩ := hv
  obtain ⟨hframe, htotal, -⟩ := wrap_ok hwrap
  refine h.flushed (h.pending.flush_ok hf).1 hp ?_ ?_ ?_ ?_ (by omega)
  · rw [hq, hframe]
  · rw [hfb, hframe]
  · rw [he, hframe]
  · rw [hw, hframe]

theorem queueOk.lastFlush (h : queueOk s) {byEof : Bool} (ht : (lastFlush byEof s).outcome = .next t) : queueOk t := by
  rcases lastFlush_next ht with ⟨v, hv, rfl⟩ | hs
  · exact h.flushedAndWrapped hv (by simp [finish]) rfl rfl rfl rfl (Nat.le_refl _)
  · exact h.sinkStopped hs

theorem queueOk.endWriteStep (h : queueOk s) (ht : (endWriteStep s).outcome = .next t) : queueOk t := by
  rcases endWriteStep_next ht with ⟨v, hv, rfl | rfl⟩ | hs
  · exact h.flushedAndWrapped hv (by simp [finish]) rfl rfl rfl rfl (Nat.le_refl _)
  · exact h.flushedAndWrapped hv (by simp) rfl rfl rfl rfl (Nat.le_refl _)
  · exact h.sinkStopped hs

theorem queueOk.endBlock (h : queueOk s) (ht : (endBlock s).outcome = .next t) : queueOk t := by
  have hu := h.advance (advanced_alignToByte s)
  rcases endBlock_next ht with hf | hl | rfl
  · exact h.failedWith hf
  · exact hu.lastFlush hl
  · exact hu.outsideDescriptor (by simp) rfl rfl rfl rfl (Nat.le_refl _)

theorem queueOk.levelsDone (h : queueOk s) (ht : (levelsDone s).outcome = .next t) : queueOk t := by
  rcases levelsDone_next ht with hf | ⟨H, -, rfl⟩
  · exact h.failedWith hf
  · exact h.outsideDescriptor (by simp) rfl rfl rfl rfl (Nat.le_refl _)

theorem queueOk.tablesDone (h : queueOk s) (ht : (tablesDone s).outcome = .next t) : queueOk t := by
  rcases tablesDone_next ht with hf | hf | ⟨main, dist, align, len, H, b, -, -, rfl⟩
  · exact h.failedWith hf
  · have hbuilds : queueOk { s with huff := Config.decodersAfterFailedBuild s.freeCount, freeCount := s.freeCount + 1 } := { h with }
    exact hbuilds.failedWith hf
  · exact h.outsideDescriptor (by simp) rfl rfl rfl rfl (Nat.le_refl _)

theorem queueOk.readHeader (h : queueOk s) {flags cx : Byte} {b7m1 : BitVec 3} {last tables : Bool} {size : List Byte}
    (ht : readHeader flags b7m1 last tables cx size s = .next t) : queueOk t := by
  have hc : queueOk (commitHeader flags b7m1 last (leValue size) s) := { h with }
  rcases readHeader_next ht with hf | ⟨u, rfl, hf | rfl | rfl⟩
  · exact h.failedWith hf
  · exact hc.failedWith hf
  · exact hc.outsideDescriptor (by simp) rfl rfl rfl rfl (Nat.le_refl _)
  · exact hc.outsideDescriptor (by simp) rfl rfl rfl rfl (Nat.le_refl _)

theorem queueOk.repeatLength (h : queueOk s) {sym e : Nat} (ht : repeatLength sym e s = .next t) : queueOk t := by
  rcases repeatLength_next ht with hf | ⟨c, v, rfl⟩
  · exact h.failedWith hf
  · exact { h with }

/-- Bytes copied move the next LZ coordinate on. -/
theorem queueOk.copyBytes (h : queueOk s) (hp : s.phase = .symbols) {dist n : Nat} (ht : copyBytes dist n s = .ok t) : queueOk t := by
  have hframe := (copyBytes_ok ht).1
  refine h.outsideDescriptor (by rw [hframe]; simp [hp]) ?_ ?_ ?_ ?_ ?_ <;> rw [hframe]
  simp only [State.total]
  omega

theorem queueOk.copyMatch (h : queueOk s) (hp : s.phase = .symbols) {dist len : Nat} (ht : (copyMatch dist len s).outcome = .next t) :
    queueOk t := by
  rcases copyMatch_next ht with hf | hc
  · exact h.failedWith hf
  · exact h.copyBytes hp hc

theorem queueOk.execLastlen (h : queueOk s) (hp : s.phase = .symbols) (ht : execLastlen s = .next t) : queueOk t := by
  rcases execLastlen_next ht with rfl | hf | hc
  · exact h
  · exact h.failedWith hf
  · exact h.copyBytes hp hc

theorem queueOk.putByte (h : queueOk s) (hp : s.phase = .symbols) {b : Byte} (ht : putByte b s = .ok t) : queueOk t := by
  have hframe := (putByte_ok.1 ht).2
  refine h.outsideDescriptor (by rw [hframe]; simp [hp]) ?_ ?_ ?_ ?_ ?_ <;> rw [hframe]
  simp only [State.total]
  omega

/-- A descriptor begins with room for its entry (R267). -/
theorem queueOk.beginDescriptor (h : queueOk s) (ht : (beginDescriptor s).outcome = .next t) : queueOk t := by
  rcases beginDescriptor_next ht with hs | ⟨u, rfl, ⟨rfl, hroom⟩ | ⟨v, hv, ⟨rfl, hroom⟩ | rfl⟩⟩
  · exact h.sinkStopped hs
  · exact h.pending.withRoom hroom rfl rfl rfl rfl (Nat.le_refl _)
  · exact (h.pending.flush_ok hv).1.pending.withRoom hroom rfl rfl rfl rfl (Nat.le_refl _)
  · exact queueOk_of_empty rfl rfl (h.pending.flush_ok hv).1.pending.written

theorem queueOk.storeVU (h : queueOk s) (hp : s.phase = .vuDelta ∨ s.phase = .vuSize) (bs : List Byte) : queueOk (storeVU bs s) := by
  obtain ⟨p, d, z, he, -⟩ := storeVU_cases bs s
  rw [he]
  exact h.pending.withRoom (h.roomInside (hp.imp_right .inl)) rfl rfl rfl rfl (Nat.le_refl _)

/-- An entry registered lies behind all that are pending and at or behind the next LZ coordinate (R263, R265). -/
theorem queueOk.registerFilter (h : queueOk s) (hp : s.phase = .filterType) {row channels : Nat}
    (hc : channels ≤ Config.filterChannelsMax) : queueOk (registerFilter row channels s) := by
  have hroom := h.roomInside (.inr (.inr hp))
  have hpending := h.pending
  rw [Machine.registerFilter]
  rcases enqueueFilter_cases (Operands.rowCode s.params row) channels s with ⟨b, he⟩ | ⟨f, he, hch, hbehind, hfuture, hpos, hmax⟩ <;>
    rw [he]
  · exact h.outsideDescriptor (by simp) rfl rfl rfl rfl (Nat.le_refl _)
  · have hwritten := hpending.written
    refine queueOk_of_pending ⟨?_, ?_, ?_, ?_, hwritten⟩ ?_ (by simp)
    · refine List.pairwise_append.2 ⟨hpending.ordered, List.pairwise_singleton .., fun g hg f' hf' => ?_⟩
      obtain rfl := List.mem_singleton.1 hf'
      exact (hpending.entries g hg).2.2.2.trans hbehind
    · intro g hg
      simp only [beginWriteStep_filterEnd]
      rcases List.mem_append.1 hg with hg | hg
      · obtain ⟨h1, h2, h3, h4⟩ := hpending.entries g hg
        exact ⟨h1, h2, h3, by omega⟩
      · obtain rfl := List.mem_singleton.1 hg
        exact ⟨hpos, hmax, by omega, Nat.le_refl _⟩
    · simp
    · intro g rest hg
      simp only [beginWriteStep_queue, beginWriteStep_fb, beginWriteStep_lzWritten] at hg ⊢
      cases hq : s.queue with
      | nil =>
        rw [hq] at hg
        cases hg
        rw [hpending.nothing hq, List.length_nil]
        omega
      | cons g' rest' =>
        rw [hq] at hg
        cases hg
        exact hpending.head g rest' hq
    · simp only [beginWriteStep_queue, List.length_append, List.length_singleton]
      omega

/-- Per-file setup empties the queue, and an allocation refused changes nothing of it (R291, R334). -/
theorem queueOk.setupFile (h : queueOk s) (ok : Bool) : queueOk (setupFile ok s) := by
  rcases setupFile_cases ok s with he | he <;> rw [he]
  · exact queueOk_of_empty rfl rfl (Nat.le_refl _)
  · exact h.outsideDescriptor (by simp) rfl rfl rfl rfl (Nat.le_refl _)

theorem queueOk.execProps (h : queueOk s) {r0 : BitVec 3} {pow frac : BitVec 5} {r1 v7 solid : Bool}
    (ht : execProps r0 pow frac r1 v7 solid s = .next t) : queueOk t := by
  obtain ⟨u, rfl, rfl | ⟨-, rfl⟩ | ⟨ok, rfl⟩⟩ := execProps_next ht
  · exact h.outsideDescriptor (by simp) rfl rfl rfl rfl (Nat.le_refl _)
  · have hl : queueOk (latchArgs (Operands.propsWord r0 pow frac r1 v7 solid) s) := { h with }
    exact hl.setupFile true
  · have hw : queueOk (freshWindow (Operands.windowSizeOf pow.toNat frac.toNat)
        (latchArgs (Operands.propsWord r0 pow frac r1 v7 solid) s)) := queueOk_of_empty rfl rfl (Nat.le_refl _)
    exact hw.setupFile ok

end

/-- Settles O54: the flush keeps the pending regions in order behind `lzWritten` (`flushQueue_settles`), a descriptor begins with
room and registers behind `filterEnd`, and every other action leaves the queue alone or empties it. -/
theorem stepKeepsQueueOk : Obligations.StepKeepsQueueOk := by
  intro s t hs h
  cases step_cases h with
  | waits _ result => rwa [result]
  | resets rest _ result =>
    rw [result]
    exact queueOk_of_empty rfl rfl (Nat.le_refl _)
  | called args rest _ _ _ _ _ _ _ result =>
    have hcall : queueOk { s with ctrl := rest, port := args } := { hs with }
    exact hcall.execProps result
  | fails u k _ reader result => exact (hs.advance reader).failedWith result
  | writeStepEnds _ result => exact hs.endWriteStep result
  | inputEnds u _ _ reader result => exact (hs.advance reader).lastFlush result
  | blockEnds u _ _ reader result => exact (hs.advance reader).endBlock result
  | levelsEnd _ _ result => exact hs.levelsDone result
  | tablesEnd _ _ result => exact hs.tablesDone result
  | header u _ _ _ _ _ _ _ reader result => exact (hs.advance reader).readHeader result
  | levels u c n _ reader result =>
    rw [result]
    exact (hs.advance reader).outsideDescriptor (by simp) rfl rfl rfl rfl (Nat.le_refl _)
  | escape u _ reader result =>
    rw [result]
    exact (hs.advance reader).outsideDescriptor (by simp) rfl rfl rfl rfl (Nat.le_refl _)
  | lengths u c v _ reader result =>
    rw [result]
    exact { hs.advance reader with }
  | repeats u _ _ _ reader result => exact (hs.advance reader).repeatLength result
  | literal u b hp _ reader result => exact (hs.advance reader).putByte (reader.phase.trans hp) (putByte_next result)
  | descriptor u _ _ reader result => exact (hs.advance reader).beginDescriptor result
  | lastMatch u hp _ reader result => exact (hs.advance reader).execLastlen (reader.phase.trans hp) result
  | usesRep u k _ _ reader result =>
    rw [result]
    exact (hs.advance reader).outsideDescriptor (by simp) rfl rfl rfl rfl (Nat.le_refl _)
  | matchSlot u _ _ _ _ reader _ result =>
    rw [result]
    exact (hs.advance reader).outsideDescriptor (by simp) rfl rfl rfl rfl (Nat.le_refl _)
  | lenSlot u _ _ _ reader _ result =>
    refine queueOk.copyMatch ?_ rfl result
    exact (hs.advance reader).outsideDescriptor (by simp) rfl rfl rfl rfl (Nat.le_refl _)
  | distSlot u _ _ _ reader _ result =>
    refine queueOk.copyMatch ?_ rfl result
    exact (hs.advance reader).outsideDescriptor (by simp) rfl rfl rfl rfl (Nat.le_refl _)
  | integer u bs hp reader result =>
    rw [result]
    exact (hs.advance reader).storeVU (by rwa [reader.phase]) bs
  | filterType u row channels hp reader few result =>
    rw [result]
    exact (hs.advance reader).registerFilter (reader.phase.trans hp) few

end Sys2Proof.Machine
end

section
/-! PROOFS. The cursor, the window bytes below it and the LZ registers (R21 to R26, R59, R75, R80, R232): that every step keeps the
invariant. -/

namespace Sys2Proof.Machine

/-! The invariant's parts. -/

/-- The part of the cursor's invariant that no phase and no place of the cursor matters to. -/
structure registersOk (s : State) : Prop where
  params : s.params.wf = true
  belowCursor : s.filled 0 s.windowPos
  wholeLap : s.lzSize ≠ 0 → s.filled 0 s.windowSize
  lap : s.lzSize ≤ s.lzWritten
  lastLength : s.lastLength ≤ Config.maxMatchLen
  distances : s.repDist.r0 ≠ 0 ∧ s.repDist.r1 ≠ 0 ∧ s.repDist.r2 ≠ 0 ∧ s.repDist.r3 ≠ 0

/-- Between two elements of a file: the cursor may stand in the window's tail (R75). -/
structure betweenOk (s : State) : Prop extends registers : registersOk s where
  dictionary : s.dictSizeForCheck = s.windowSize ∧ Config.windowMin ≤ s.windowSize ∧ s.limit ≤ s.windowSize
  position : s.windowPos < s.windowSize + Config.maxMatchLen

/-- Inside an element of a file, or past the write-step guard before one: the cursor stands in the window proper (R224). -/
structure insideOk (s : State) : Prop extends registers : registersOk s where
  dictionary : s.dictSizeForCheck = s.windowSize ∧ Config.windowMin ≤ s.windowSize ∧ s.limit ≤ s.windowSize
  position : s.windowPos < s.windowSize

section
variable {s t u : State}

theorem cursorOk.registers (h : cursorOk s) : registersOk s where
  params := h.params
  belowCursor := h.source.belowCursor
  wholeLap := h.source.wholeLap
  lap := h.lap
  lastLength := h.lastLength
  distances := h.distances

theorem cursorOk.between (h : cursorOk s) (hp : s.phase = .symbols) : betweenOk s where
  registers := h.registers
  dictionary := h.dictionary (by simp [hp])
  position := h.betweenElements hp

/-- Where the symbol loop goes on past the write-step guard the cursor stands in the window proper (R224). -/
theorem cursorOk.inside (h : cursorOk s) (hr : s.running) (hroom : s.phase = .symbols → s.windowPos < s.limit) : insideOk s where
  registers := h.registers
  dictionary := h.dictionary hr
  position := by
    by_cases hp : s.phase = .symbols
    · exact (hroom hp).trans_le (h.dictionary hr).2.2
    · exact h.insideElement hr hp

theorem insideOk.between (h : insideOk s) : betweenOk s where
  registers := h.registers
  dictionary := h.dictionary
  position := h.position.trans_le (Nat.le_add_right ..)

/-- Between transactions, with no valid chain, only the registers matter. -/
theorem registersOk.unchained (h : registersOk t) (hp : t.phase = .idle) (hc : t.chainValid = false) : cursorOk t where
  params := h.params
  source := ⟨h.belowCursor, h.wholeLap⟩
  lap := h.lap
  dictionary hr := absurd hp hr
  betweenElements hs := by simp [hp] at hs
  insideElement hr := absurd hp hr
  chain _ hv := by simp [hc] at hv
  lastLength := h.lastLength
  pending hd := by simp [hp] at hd
  distances := h.distances

theorem cursorOk_of_between (h : betweenOk t) (hp : t.phase = .symbols) : cursorOk t where
  params := h.params
  source := ⟨h.belowCursor, h.wholeLap⟩
  lap := h.lap
  dictionary _ := h.dictionary
  betweenElements _ := h.position
  insideElement _ hn := absurd hp hn
  chain hi := by simp [hp] at hi
  lastLength := h.lastLength
  pending hd := by simp [hp] at hd
  distances := h.distances

/-- A cursor in the window proper is right in every phase. -/
theorem cursorOk_of_inside (h : insideOk t) (hpend : t.phase = .distSlot → t.pendLen ≤ 4097) : cursorOk t where
  params := h.params
  source := ⟨h.belowCursor, h.wholeLap⟩
  lap := h.lap
  dictionary _ := h.dictionary
  betweenElements _ := h.between.position
  insideElement _ _ := h.position
  chain _ _ := ⟨h.position, h.dictionary.2.1⟩
  lastLength := h.lastLength
  pending := hpend
  distances := h.distances

/-- The reader's move keeps the invariant. -/
theorem cursorOk.advance (h : cursorOk s) (hu : advanced s u) : cursorOk u := by
  rw [hu.frame]
  exact { h with source := ⟨h.source.belowCursor, h.source.wholeLap⟩ }

theorem insideOk.advance (h : insideOk s) (hu : advanced s u) : insideOk u := by
  rw [hu.frame]
  exact { h with }

/-! The window. -/

/-- A byte stored leaves no index empty that held one. -/
theorem Memory.read_write_ne_none {m : Memory} {a i : Nat} {b : Byte} (h : m.read i ≠ none) : (m.write a b).read i ≠ none := by
  rw [Memory.read_write]
  split
  · simp
  · exact h

/-- Bytes stored leave no index empty that held one. -/
theorem windowStore_ne_none {i a : Nat} {bs : List Byte} (ht : windowStore i bs s = .ok t) (h : s.window.read a ≠ none) :
    t.window.read a ≠ none := by
  induction bs generalizing i s with
  | nil =>
    cases ht
    exact h
  | cons b bs ih =>
    obtain ⟨u, hu, ht⟩ := Flow.bind_ok.1 ht
    obtain ⟨-, rfl⟩ := windowWrite_ok.1 hu
    exact ih ht (Memory.read_write_ne_none h)

/-- A wrap does nothing below the window's end; else it takes a whole window off the cursor (R303). -/
theorem wrap_cases (ht : wrap s = .ok t) :
    (s.windowPos < s.windowSize ∧ t = s) ∨
    (s.windowSize ≤ s.windowPos ∧
      t = { s with window := t.window, lzSize := s.lzSize + s.windowSize, windowPos := s.windowPos - s.windowSize } ∧
      ∀ a, s.window.read a ≠ none → t.window.read a ≠ none) := by
  unfold wrap at ht
  split at ht
  · rename_i hlt
    cases ht
    exact .inl ⟨hlt, rfl⟩
  · rename_i hge
    obtain ⟨bs, -, ht⟩ := Flow.bind_ok.1 ht
    obtain ⟨u, hu, ht⟩ := Flow.bind_ok.1 ht
    cases ht
    obtain ⟨hframe, -⟩ := windowStore_ok hu
    exact .inr ⟨by omega, by rw [hframe], fun a ha => (windowStore_ne_none hu ha : u.window.read a ≠ none)⟩

/-- A byte produced extends what is written below the cursor (R80, R230). -/
theorem registersOk.putByte (h : registersOk s) {b : Byte} (ht : putByte b s = .ok t) : registersOk t := by
  obtain ⟨-, rfl⟩ := putByte_ok.1 ht
  refine { h with belowCursor := fun i hi _ => ?_, wholeLap := fun hl i hi h0 => Memory.read_write_ne_none (h.wholeLap hl i hi h0) }
  simp only at hi ⊢
  by_cases hc : i = s.windowPos
  · rw [hc, Memory.read_write_same]
    simp
  · exact Memory.read_write_ne_none (h.belowCursor i (by omega) (Nat.zero_le _))

/-- Bytes copied extend what is written below the cursor (R80, R237). -/
theorem registersOk.copyBytes (h : registersOk s) {dist n : Nat} (ht : copyBytes dist n s = .ok t) : registersOk t := by
  induction n generalizing s with
  | zero =>
    cases ht
    exact h
  | succ n ih =>
    obtain ⟨b, -, ht⟩ := Flow.bind_ok.1 ht
    obtain ⟨u, hu, ht⟩ := Flow.bind_ok.1 ht
    exact ih (h.putByte hu) ht

/-! Flushes. -/

/-- A flush moves `lzWritten` on and leaves the cursor and the window alone (R302). -/
theorem registersOk.flushed (h : registersOk s) (hf : onlyFlushed s u) (hw : flushesTo s u) : registersOk u := by
  have hlap := h.lap.trans hw.onward
  rw [hf]
  exact { h with lap := hlap }

theorem insideOk.flushed (h : insideOk s) (hf : onlyFlushed s u) (hw : flushesTo s u) : insideOk u := by
  have hlap := h.lap.trans hw.onward
  rw [hf]
  exact { h with lap := hlap }

theorem registersOk.failedWith (h : registersOk s) (hq : pendingOk s) {k : ErrorKind} (ht : failedWith k s t) : cursorOk t := by
  obtain ⟨u, hu, hf, rfl⟩ := ht
  have hr := h.flushed hf (hq.flushedTo hu)
  exact registersOk.unchained { hr with } rfl rfl

theorem registersOk.sinkStopped (h : registersOk s) (hq : pendingOk s) (ht : sinkStopped s t) : cursorOk t := by
  obtain ⟨k, u, hu, hf⟩ := ht
  have hsu := hq.flush_raised hu
  exact (h.flushed (flush_raised hu) hsu).failedWith hsu.pending hf

/-- After a flush and a wrap the cursor stands in the window proper, and a wrapped lap has all been written (R75, R303). -/
theorem betweenOk.flushedAndWrapped (h : betweenOk s) (hq : pendingOk s) (ht : flushedAndWrapped s t) : insideOk t := by
  obtain ⟨u, hu, hw⟩ := ht
  obtain ⟨hsu, hall⟩ := hq.flush_ok hu
  have hf := flush_ok hu
  have hr := h.registers.flushed hf hsu
  have hb : betweenOk u := { hr with dictionary := by rw [hf]; exact h.dictionary, position := by rw [hf]; exact h.position }
  have htotal : u.total = s.total := by rw [hf]; rfl
  rcases wrap_cases hw with ⟨hlt, rfl⟩ | ⟨hge, hframe, hkeep⟩
  · exact { hr with dictionary := hb.dictionary, position := hlt }
  · have hlap : u.lzSize + u.windowSize ≤ u.lzWritten := by
      rw [hall, ← htotal, State.total]
      omega
    have hposition : u.windowPos - u.windowSize < u.windowSize := by
      have h1 := hb.position
      have h2 := hb.dictionary.2.1
      simp only [Config.maxMatchLen, Config.windowMin] at h1 h2
      omega
    have hbelow : ∀ i, i < u.windowPos → t.window.read i ≠ none := fun i hi => hkeep i (hr.belowCursor i hi (Nat.zero_le _))
    rw [hframe]
    exact { hb with
      belowCursor := fun i hi _ => hbelow i (by simp only at hi; omega)
      wholeLap := fun _ i hi _ => hbelow i (by simp only at hi; omega)
      lap := hlap
      position := hposition }

theorem betweenOk.lastFlush (h : betweenOk s) (hq : pendingOk s) {byEof : Bool} (ht : (lastFlush byEof s).outcome = .next t) :
    cursorOk t := by
  rcases lastFlush_next ht with ⟨v, hv, rfl⟩ | hs
  · have hv := h.flushedAndWrapped hq hv
    exact cursorOk_of_inside { hv with } nofun
  · exact h.registers.sinkStopped hq hs

/-- A new write step has its limit within the window (R300). -/
theorem insideOk.beginWriteStep (h : insideOk s) : cursorOk (beginWriteStep s) :=
  cursorOk_of_inside { h with dictionary := ⟨h.dictionary.1, h.dictionary.2.1, Nat.min_le_left ..⟩ } nofun

theorem betweenOk.endWriteStep (h : betweenOk s) (hq : pendingOk s) (ht : (endWriteStep s).outcome = .next t) : cursorOk t := by
  rcases endWriteStep_next ht with ⟨v, hv, rfl | rfl⟩ | hs
  · have hv := h.flushedAndWrapped hq hv
    exact cursorOk_of_inside { hv with } nofun
  · exact (h.flushedAndWrapped hq hv).beginWriteStep
  · exact h.registers.sinkStopped hq hs

/-! The elements. -/

theorem insideOk.endBlock (h : insideOk s) (hq : queueOk s) (ht : (endBlock s).outcome = .next t) : cursorOk t := by
  have hu := advanced_alignToByte s
  have hi := h.advance hu
  rcases endBlock_next ht with hf | hl | rfl
  · exact h.registers.failedWith hq.pending hf
  · exact hi.between.lastFlush (hq.advance hu).pending hl
  · exact cursorOk_of_inside { hi with } nofun

theorem insideOk.levelsDone (h : insideOk s) (hq : pendingOk s) (ht : (levelsDone s).outcome = .next t) : cursorOk t := by
  rcases levelsDone_next ht with hf | ⟨H, -, rfl⟩
  · exact h.registers.failedWith hq hf
  · exact cursorOk_of_inside { h with } nofun

theorem insideOk.tablesDone (h : insideOk s) (hq : pendingOk s) (ht : (tablesDone s).outcome = .next t) : cursorOk t := by
  rcases tablesDone_next ht with hf | hf | ⟨main, dist, align, len, H, b, -, -, rfl⟩
  · exact h.registers.failedWith hq hf
  · let u := { s with huff := Config.decodersAfterFailedBuild s.freeCount, freeCount := s.freeCount + 1 }
    have hu : registersOk u := { h with }
    have hqu : pendingOk u := { hq with }
    exact hu.failedWith hqu hf
  · exact cursorOk_of_inside { h with } nofun

theorem insideOk.readHeader (h : insideOk s) (hq : pendingOk s) {flags cx : Byte} {b7m1 : BitVec 3} {last tables : Bool}
    {size : List Byte} (ht : readHeader flags b7m1 last tables cx size s = .next t) : cursorOk t := by
  have hc : registersOk (commitHeader flags b7m1 last (leValue size) s) := { h with }
  have hqc : pendingOk (commitHeader flags b7m1 last (leValue size) s) := { hq with }
  rcases readHeader_next ht with hf | ⟨u, rfl, hf | rfl | rfl⟩
  · exact h.registers.failedWith hq hf
  · exact hc.failedWith hqc hf
  · exact cursorOk_of_inside { h with } nofun
  · exact cursorOk_of_inside { h with } nofun

theorem insideOk.addLengths (h : insideOk s) (hp : s.phase = .levelSym) (c v : Nat) : cursorOk (addLengths c v s) :=
  cursorOk_of_inside { h with } (by simp [hp])

theorem insideOk.repeatLength (h : insideOk s) (hp : s.phase = .levelSym) (hq : pendingOk s) {sym e : Nat}
    (ht : repeatLength sym e s = .next t) : cursorOk t := by
  rcases repeatLength_next ht with hf | ⟨c, v, rfl⟩
  · exact h.registers.failedWith hq hf
  · exact h.addLengths hp c v

/-- A copy of at most MAX_MATCH_LEN bytes ends below the end of the window's tail (R75, R232). -/
theorem insideOk.copyBytes (h : insideOk s) (hp : s.phase = .symbols) {dist n : Nat} (hn : n ≤ Config.maxMatchLen)
    (ht : copyBytes dist n s = .ok t) : cursorOk t := by
  have hr := h.registers.copyBytes ht
  have hpos := h.position
  have hframe := (copyBytes_ok ht).1
  refine cursorOk_of_between { hr with dictionary := ?_, position := ?_ } (by rw [hframe]; exact hp) <;> rw [hframe]
  · exact h.dictionary
  · simp only
    omega

theorem insideOk.copyMatch (h : insideOk s) (hp : s.phase = .symbols) (hq : pendingOk s) {dist len : Nat}
    (hlen : len ≤ Config.maxMatchLen) (ht : (copyMatch dist len s).outcome = .next t) : cursorOk t := by
  rcases copyMatch_next ht with hf | hc
  · exact h.registers.failedWith hq hf
  · exact h.copyBytes hp hlen hc

theorem insideOk.execLastlen (h : insideOk s) (hp : s.phase = .symbols) (hq : pendingOk s) (ht : execLastlen s = .next t) :
    cursorOk t := by
  rcases execLastlen_next ht with rfl | hf | hc
  · exact cursorOk_of_inside h (by simp [hp])
  · exact h.registers.failedWith hq hf
  · exact h.copyBytes hp h.lastLength hc

theorem insideOk.putByte (h : insideOk s) (hp : s.phase = .symbols) {b : Byte} (ht : putByte b s = .ok t) : cursorOk t := by
  have hr := h.registers.putByte ht
  have hpos := h.position
  obtain ⟨-, hframe⟩ := putByte_ok.1 ht
  refine cursorOk_of_between { hr with dictionary := ?_, position := ?_ } (by rw [hframe]; exact hp) <;> rw [hframe]
  · exact h.dictionary
  · simp only [Config.maxMatchLen]
    omega

/-- The length of a REPk is at most MAX_MATCH_LEN (R232, R240). -/
theorem insideOk.repLength (h : insideOk s) (hq : pendingOk s) {slot x : Nat} (hlen : Operands.slotToLen slot x ≤ 4097)
    (ht : repLength slot x s = .next t) : cursorOk t := by
  have hmax : Operands.slotToLen slot x ≤ Config.maxMatchLen := hlen.trans (by decide)
  have hu : insideOk { s with lastLength := Operands.slotToLen slot x, phase := .symbols } := { h with lastLength := hmax }
  exact hu.copyMatch rfl { hq with } hmax ht

/-- The length of a MATCH with its addend is at most MAX_MATCH_LEN, and its distance is not 0 (R226, R232, R233, R236). -/
theorem insideOk.matchDist (h : insideOk s) (hq : pendingOk s) {slot low : Nat} (hpend : s.pendLen ≤ 4097)
    (hdist : 1 ≤ Operands.slotToDist slot low ∧ Operands.slotToDist slot low < 2 ^ 32) (ht : matchDist slot low s = .next t) :
    cursorOk t := by
  have hmax : s.pendLen + Operands.lenPlus s.params slot ≤ Config.maxMatchLen := by
    have := lenPlus_le h.params slot
    simp only [Config.maxMatchLen]
    omega
  have hnew : (BitVec.ofNat 32 (Operands.slotToDist slot low)) ≠ 0 := fun hz => by
    have := congrArg BitVec.toNat hz
    simp only [BitVec.toNat_ofNat, Nat.mod_eq_of_lt hdist.2] at this
    simp at this
    omega
  have hu : insideOk (matchRegisters (Operands.slotToDist slot low) (s.pendLen + Operands.lenPlus s.params slot) s) :=
    { h with lastLength := hmax, distances := ⟨hnew, h.distances.1, h.distances.2.1, h.distances.2.2.1⟩ }
  exact hu.copyMatch rfl { hq with } hmax ht

/-- The repetition registers are permuted (R225). -/
theorem insideOk.useRep (h : insideOk s) (k : Nat) : cursorOk (useRep k s) := by
  obtain ⟨h0, h1, h2, h3⟩ := h.distances
  refine cursorOk_of_inside { h with distances := ?_ } nofun
  rw [useRep_repDist]
  match k with
  | 0 => exact ⟨h0, h1, h2, h3⟩
  | 1 => exact ⟨h1, h0, h2, h3⟩
  | 2 => exact ⟨h2, h0, h1, h3⟩
  | _ + 3 => exact ⟨h3, h0, h1, h2⟩

theorem insideOk.beginDescriptor (h : insideOk s) (hq : pendingOk s) (ht : (beginDescriptor s).outcome = .next t) : cursorOk t := by
  rcases beginDescriptor_next ht with hs | ⟨u, rfl, ⟨rfl, -⟩ | ⟨v, hv, ⟨rfl, -⟩ | rfl⟩⟩
  · exact h.registers.sinkStopped hq hs
  · exact cursorOk_of_inside { h with } nofun
  · have hv := h.flushed (flush_ok hv) (hq.flush_ok hv).1
    exact cursorOk_of_inside { hv with } nofun
  · have hv := h.flushed (flush_ok hv) (hq.flush_ok hv).1
    exact cursorOk_of_inside { hv with } nofun

theorem insideOk.storeVU (h : insideOk s) (bs : List Byte) : cursorOk (storeVU bs s) := by
  obtain ⟨p, d, z, he, hp⟩ := storeVU_cases bs s
  rw [he]
  exact cursorOk_of_inside { h with } (by rcases hp with rfl | rfl <;> exact nofun)

theorem insideOk.registerFilter (h : insideOk s) (row channels : Nat) : cursorOk (registerFilter row channels s) := by
  rw [Machine.registerFilter]
  rcases enqueueFilter_cases (Operands.rowCode s.params row) channels s with ⟨b, he⟩ | ⟨f, he, -⟩ <;> rw [he] <;>
    exact insideOk.beginWriteStep { h with }

/-! Calls. -/

/-- The registers after a full reset, in whatever window (R371). -/
theorem registersOk_of_reset (hw : t.params.wf = true) (hp : t.windowPos = 0) (hl : t.lzSize = 0) (hn : t.lastLength = 0)
    (hd : t.repDist = RepDist.reset) : registersOk t where
  params := hw
  belowCursor i hi := by omega
  wholeLap hz := absurd hl hz
  lap := by omega
  lastLength := by omega
  distances := by rw [hd]; decide

/-- Per-file setup makes the dictionary the whole window (R291). -/
theorem registersOk.setupFile (h : registersOk s) (hpos : s.windowPos < s.windowSize) (hmin : Config.windowMin ≤ s.windowSize)
    (ok : Bool) : cursorOk (setupFile ok s) := by
  rcases setupFile_cases ok s with he | he <;> rw [he]
  · exact cursorOk_of_inside
      { h with lap := Nat.le_add_right .., dictionary := ⟨rfl, hmin, Nat.min_le_left ..⟩, position := hpos } nofun
  · exact registersOk.unchained { h with } rfl rfl

/-- A continued chain has its cursor in the window proper; any other file has a window of its own (R290 to R292). -/
theorem cursorOk.execProps (h : cursorOk s) (hp : s.phase = .idle) {r0 : BitVec 3} {pow frac : BitVec 5} {r1 v7 solid : Bool}
    (ht : execProps r0 pow frac r1 v7 solid s = .next t) : cursorOk t := by
  have hr := h.registers
  obtain ⟨u, rfl, rfl | ⟨hsolid, rfl⟩ | ⟨ok, rfl⟩⟩ := execProps_next ht
  · exact registersOk.unchained { hr with } rfl rfl
  · have hchain : s.chainValid = true := (Bool.and_eq_true_iff.1 hsolid).1
    obtain ⟨hpos, hmin⟩ := h.chain hp hchain
    have hl : registersOk (latchArgs (Operands.propsWord r0 pow frac r1 v7 solid) s) := { hr with }
    exact hl.setupFile hpos hmin true
  · have hmin : Config.windowMin ≤ Operands.windowSizeOf pow.toNat frac.toNat := Nat.le_max_right ..
    have hpos : 0 < Operands.windowSizeOf pow.toNat frac.toNat := Nat.lt_of_lt_of_le (by decide) hmin
    exact (registersOk_of_reset (by exact h.params) rfl rfl rfl rfl).setupFile hpos hmin ok

end

/-- Settles O55: the write-step guard and the wrap bring the cursor back into the window proper before an element (`insideOk`), which
moves it by at most MAX_MATCH_LEN over bytes that it writes. -/
theorem stepKeepsCursorOk : Obligations.StepKeepsCursorOk := by
  intro s t hq hs hd h
  have inElement {u : State} {p : Phase} (hu : advanced s u) (hp : s.phase = p) (hn : p ≠ .idle ∧ p ≠ .symbols) : insideOk u :=
    (hs.inside (by rw [State.running, hp]; exact hn.1) (fun hsym => absurd (hp.symm.trans hsym) hn.2)).advance hu
  have inLoop {u : State} (hu : advanced s u) (hp : s.phase = .symbols) (hroom : s.windowPos < s.limit) : insideOk u :=
    (hs.inside (by simp [hp]) fun _ => hroom).advance hu
  have pending {u : State} (hu : advanced s u) : pendingOk u := (hq.advance hu).pending
  have align (hr : s.running) : s.huff.align.builtFor Config.alignSize := (hd.built hr).2.2.1
  cases step_cases h with
  | waits _ result => rwa [result]
  | resets rest idle result =>
    rw [result]
    exact (registersOk_of_reset (by exact hs.params) rfl rfl rfl rfl).unchained idle rfl
  | called args rest _ _ _ _ _ _ idle result =>
    have hcall : cursorOk { s with ctrl := rest, port := args } :=
      { hs with source := ⟨hs.source.belowCursor, hs.source.wholeLap⟩ }
    exact hcall.execProps idle result
  | fails u k _ reader result => exact (hs.advance reader).registers.failedWith (pending reader) result
  | writeStepEnds hp result => exact (hs.between hp).endWriteStep hq.pending result
  | inputEnds u hp room reader result => exact (inLoop reader hp room).between.lastFlush (pending reader) result
  | blockEnds u hp room reader result => exact (inLoop reader hp room).endBlock (hq.advance reader) result
  | levelsEnd hp _ result => exact (inElement (advanced_refl s) hp (by decide)).levelsDone hq.pending result
  | tablesEnd hp _ result => exact (inElement (advanced_refl s) hp (by decide)).tablesDone hq.pending result
  | header u _ _ _ _ _ _ hp reader result => exact (inElement reader hp (by decide)).readHeader (pending reader) result
  | levels u c n hp reader result =>
    have hu : insideOk u := hp.elim (inElement reader · (by decide)) (inElement reader · (by decide))
    rw [result]
    exact cursorOk_of_inside { hu with } nofun
  | escape u hp reader result =>
    rw [result]
    exact cursorOk_of_inside { inElement reader hp (by decide) with } nofun
  | lengths u c v hp reader result =>
    rw [result]
    exact (inElement reader hp (by decide)).addLengths (reader.phase.trans hp) c v
  | repeats u _ _ hp reader result =>
    exact (inElement reader hp (by decide)).repeatLength (reader.phase.trans hp) (pending reader) result
  | literal u b hp room reader result => exact (inLoop reader hp room).putByte (reader.phase.trans hp) (putByte_next result)
  | descriptor u hp room reader result => exact (inLoop reader hp room).beginDescriptor (pending reader) result
  | lastMatch u hp room reader result => exact (inLoop reader hp room).execLastlen (reader.phase.trans hp) (pending reader) result
  | usesRep u k hp room reader result =>
    rw [result]
    exact (inLoop reader hp room).useRep k
  | matchSlot u slot x hp room reader length result =>
    rw [result]
    exact cursorOk_of_inside { inLoop reader hp room with } fun _ => length (align (by simp [hp]))
  | lenSlot u slot x hp reader length result =>
    exact (inElement reader hp (by decide)).repLength (pending reader) (length (align (by simp [hp]))) result
  | distSlot u slot low hp reader distance result =>
    have hpend := (hs.advance reader).pending (reader.phase.trans hp)
    exact (inElement reader hp (by decide)).matchDist (pending reader) hpend (distance (align (by simp [hp]))) result
  | integer u bs hp reader result =>
    have hu : insideOk u := hp.elim (inElement reader · (by decide)) (inElement reader · (by decide))
    rw [result]
    exact hu.storeVU bs
  | filterType u row channels hp reader _ result =>
    rw [result]
    exact (inElement reader hp (by decide)).registerFilter row channels

end Sys2Proof.Machine
end

section
/-! PROOFS. What the bits at the reader are decoded as, phase by phase (R85, R125). -/

namespace Sys2Proof.Machine

section
variable {s u : State}

/-- The state that a `prepare` which goes through leaves (R142, log 4). -/
def State.preparedState (s : State) : State :=
  { s with wasFinished := s.wasFinished || (s.src.ioAt.isNone && decide (s.src.bytes.length < s.pc / 8 + 16)) }

/-- A `prepare` whose source does not fail records whether the source ends within the look-ahead. -/
theorem prepare_eq (h : s.sourceFails = false) : prepare s = .ok s.preparedState := by
  simp [prepare, h, State.preparedState, State.srcLen, State.byteOff, Nat.shiftRight_eq_div_pow, Config.lookAheadSize]

/-- What follows `prepare` where the source does not fail. -/
theorem prepared_eq (h : s.sourceFails = false) (k : State → Before) : prepared s k = k s.preparedState := by
  simp only [prepared, prepare_eq h]

theorem advanced_preparedState (s : State) : advanced s s.preparedState := ⟨rfl, Nat.le_refl _⟩

/-- A running machine that is ready for the fetch runs what the bits at its reader decode to: a symbol in the code of its phase, a
raw field in whatever code (R125, R132). -/
theorem step_decoded {f : Format} {H : Huff} {i : Instr} {n : Nat} (hr : s.running) (hb : before s = .go u) (hu : advanced s u)
    (hf : s.decodeCtx.fmt = f) (hH : f.isSymbol = true → H = s.decodeCtx.sym)
    (hd : decode { fmt := f, sym := H, align := s.decodeCtx.align, params := s.decodeCtx.params } (u.streamBits fetchWidth) = .ok i n) :
    step s = exec i { u with pc := u.pc + n } := by
  have hru : u.phase ≠ .idle := by rw [hu.phase]; exact hr
  have hbits : u.fetchBits = u.streamBits fetchWidth := by
    unfold State.fetchBits
    split
    · rename_i hp
      exact absurd hp hru
    · rfl
  have hctx : decode s.decodeCtx (u.streamBits fetchWidth) = .ok i n := by
    subst hf
    cases hs : s.decodeCtx.fmt.isSymbol with
    | true =>
      rw [hH hs] at hd
      exact hd
    | false =>
      rw [decode_sym _ hs H s.decodeCtx.sym] at hd
      exact hd
  have hi : fetch u = .ok i n := by rw [fetch, hbits, hu.decodeCtx, hctx]
  rw [step_fetched hb hi, State.passed, if_neg hru]
  rfl

/-- A `decode` call's property bytes are read in any context of their format (R290). -/
theorem step_call {c : DecodeCtx} {args : DecodeArgs} {rest : List Command} {i : Instr} {n : Nat} (hc : c.fmt = .props)
    (hp : s.phase = .idle) (hctrl : s.ctrl = .decode args :: rest) (hd : decode c (toBits 16 args.props.toNat) = .ok i n) :
    step s = exec i { s with ctrl := rest, port := args } := by
  have hb : before s = .go { s with ctrl := rest, port := args } := by simp only [before, hp, beforeCall, hctrl]
  have hf : fetch { s with ctrl := rest, port := args } = .ok i n := by
    simp only [decode, hc] at hd
    simp only [fetch, State.decodeCtx, hp, decode, State.fetchBits]
    exact hd
  rw [step_fetched hb hf, State.passed, if_pos (show _ = Phase.idle from hp)]

/-- How many lengths a table set carries, as a sum with its three fixed sections (R203). -/
theorem tableTotal_eq (s : State) : s.tableTotal = s.params.mainSize + (if s.props.getLsbD 1 then 140 else 124) := by
  have hv : s.v7 = s.props.getLsbD 1 := rfl
  rw [State.tableTotal, Operands.tablesSizeSum, hv]
  cases s.props.getLsbD 1 <;> rfl

/-- Before a level symbol with a length missing, past the over-read test (R203, R207). -/
theorem before_levelSym (hp : s.phase = .levelSym) (hsrc : s.sourceFails = false)
    (hlen : s.tbl.length < s.params.mainSize + (if s.props.getLsbD 1 then 140 else 124))
    (hover : ¬(8 * s.blockEnd + s.blockEndBits7 < s.pc ∨
      (s.preparedState.wasFinished = true ∧ 8 * s.src.bytes.length < s.pc))) :
    before s = .go s.preparedState := by
  have hmissing : ¬s.tableTotal ≤ s.tbl.length := by
    rw [tableTotal_eq]
    omega
  have hread : s.preparedState.tableOverRead = false := by
    rw [State.tableOverRead, State.isBlockOverRead, State.inputEofError, Bool.or_eq_false_iff, decide_eq_false_iff_not,
      Bool.and_eq_false_iff, decide_eq_false_iff_not]
    rw [not_or, not_and_or, Bool.not_eq_true] at hover
    exact hover
  simp only [before, hp, beforeLevelSymbol, if_neg hmissing, prepared_eq hsrc, hread, Bool.false_eq_true, if_false]

/-- Before a level nibble with a length missing (R201). -/
theorem before_levelNib (hp : s.phase = .levelNib) (hsrc : s.sourceFails = false) (hlen : s.lv.length < 20) :
    before s = .go s.preparedState := by
  have hmissing : ¬Config.levelSize ≤ s.lv.length := by
    rw [Config.levelSize]
    omega
  simp only [before, hp, beforeNibble, if_neg hmissing, prepared_eq hsrc]

end

/-- Settles O4: for each phase, what stands before its fetch (`before_levelSym`, ...) and the context read off the state
(`step_decoded`). -/
theorem stepRunsDecodedInstruction : Obligations.StepRunsDecodedInstruction := by
  refine ⟨fun s u i n hb hf => step_fetched hb hf, fun s s1 hs1 => ?_⟩
  obtain rfl : s1 = s.preparedState := hs1
  have hready := advanced_preparedState s
  intro runs
  have lenSlot (hp : s.phase = .lenSlot) : runs .lenSlot s.huff.len s := fun i n =>
    step_decoded (by simp [hp]) (by simp only [before, hp]) (advanced_refl s) (by simp only [State.decodeCtx, hp])
      (fun _ => by simp only [State.decodeCtx, hp])
  have distSlot (hp : s.phase = .distSlot) : runs .distSlot s.huff.dist s := fun i n =>
    step_decoded (by simp [hp]) (by simp only [before, hp]) (advanced_refl s) (by simp only [State.decodeCtx, hp])
      (fun _ => by simp only [State.decodeCtx, hp])
  have vuSize (H : Huff) (hp : s.phase = .vuSize) : runs .vuSel H s := fun i n =>
    step_decoded (by simp [hp]) (by simp only [before, hp]) (advanced_refl s) (by simp only [State.decodeCtx, hp]) nofun
  have filterType (H : Huff) (hp : s.phase = .filterType) : runs .filterType H s := fun i n =>
    step_decoded (by simp [hp]) (by simp only [before, hp]) (advanced_refl s) (by simp only [State.decodeCtx, hp]) nofun
  refine ⟨fun c args rest i n hc hp hctrl hd => step_call hc hp hctrl hd, lenSlot, distSlot, vuSize, filterType, fun hsrc => ?_⟩
  have vuDelta (H : Huff) (hp : s.phase = .vuDelta) : runs .vuSel H s.preparedState := fun i n =>
    step_decoded (by simp [hp]) (by simp only [before, hp, prepared_eq hsrc]) hready (by simp only [State.decodeCtx, hp]) nofun
  have header (H : Huff) (hp : s.phase = .header) : runs .blockFlags H (alignToByte s.preparedState) := fun i n =>
    step_decoded (by simp [hp]) (by simp only [before, hp, prepared_eq hsrc]) (advanced_trans hready (advanced_alignToByte _))
      (by simp only [State.decodeCtx, hp]) nofun
  have levelNib (H : Huff) (hp : s.phase = .levelNib) (hlen : s.lv.length < 20) : runs .levelNib H s.preparedState := fun i n =>
    step_decoded (by simp [hp]) (before_levelNib hp hsrc hlen) hready (by simp only [State.decodeCtx, hp]) nofun
  have levelNib2 (H : Huff) (hp : s.phase = .levelNib2) : runs .levelNib2 H s.preparedState := fun i n =>
    step_decoded (by simp [hp]) (by simp only [before, hp, prepared_eq hsrc]) hready (by simp only [State.decodeCtx, hp]) nofun
  refine ⟨vuDelta, header, levelNib, levelNib2, fun hp hlen hover i n => ?_⟩
  exact step_decoded (by simp [hp]) (before_levelSym hp hsrc hlen hover) hready (by simp only [State.decodeCtx, hp])
    (fun _ => by simp only [State.decodeCtx, hp])

end Sys2Proof.Machine
end

section
/-! PROOFS. The window memory's canonical form (R16, R72): that every step keeps it. -/

namespace Sys2Proof.Machine

section
variable {s t u : State}

theorem memoryOk_of_window (h : memoryOk s) (hw : t.window = s.window) : memoryOk t := by rw [memoryOk, hw]; exact h

/-! What leaves the window alone. -/

theorem advanced.window (h : advanced s u) : u.window = s.window := by rw [h.frame]

theorem failedWith_window {k : ErrorKind} (h : failedWith k s t) : t.window = s.window := by rw [failedWith_frame h]

theorem sinkStopped_window (h : sinkStopped s t) : t.window = s.window := by rw [sinkStopped_frame h]

theorem flush_window (h : flush s = .ok t) : t.window = s.window := by rw [flush_ok h]

theorem levelsDone_window (h : (levelsDone s).outcome = .next t) : t.window = s.window := by
  rcases levelsDone_next h with hf | ⟨H, -, rfl⟩
  · exact failedWith_window hf
  · rfl

theorem tablesDone_window (h : (tablesDone s).outcome = .next t) : t.window = s.window := by
  rcases tablesDone_next h with hf | hf | ⟨main, dist, align, len, H, b, -, -, rfl⟩
  · exact failedWith_window hf
  · rw [failedWith_window hf]
  · rfl

theorem readHeader_window {flags cx : Byte} {b7m1 : BitVec 3} {last tables : Bool} {size : List Byte}
    (h : readHeader flags b7m1 last tables cx size s = .next t) : t.window = s.window := by
  rcases readHeader_next h with hf | ⟨u, rfl, hf | rfl | rfl⟩
  · exact failedWith_window hf
  · rw [failedWith_window hf, commitHeader_window]
  · rfl
  · rfl

theorem repeatLength_window {sym e : Nat} (h : repeatLength sym e s = .next t) : t.window = s.window := by
  rcases repeatLength_next h with hf | ⟨c, v, rfl⟩
  · exact failedWith_window hf
  · rfl

theorem beginDescriptor_window (h : (beginDescriptor s).outcome = .next t) : t.window = s.window := by
  rcases beginDescriptor_next h with hs | ⟨u, rfl, ⟨rfl, -⟩ | ⟨v, hv, ⟨rfl, -⟩ | rfl⟩⟩
  · exact sinkStopped_window hs
  · rfl
  · rw [← flush_window hv]
  · rw [← flush_window hv]

theorem storeVU_window (bs : List Byte) (s : State) : (storeVU bs s).window = s.window := by
  obtain ⟨p, d, z, he, -⟩ := storeVU_cases bs s
  rw [he]

theorem registerFilter_window (row channels : Nat) (s : State) : (registerFilter row channels s).window = s.window := by
  rw [registerFilter, beginWriteStep_window]
  rcases enqueueFilter_cases (Operands.rowCode s.params row) channels s with ⟨b, he⟩ | ⟨f, he, -⟩ <;> rw [he]

theorem setupFile_window (ok : Bool) (s : State) : (setupFile ok s).window = s.window := by
  rcases setupFile_cases ok s with he | he <;> rw [he] <;> rfl

/-! What writes the window, or takes a new one. -/

theorem memoryOk_putByte (h : memoryOk s) {b : Byte} (ht : putByte b s = .ok t) : memoryOk t := by
  rw [(putByte_ok.1 ht).2]
  exact Memory.wf_write _ _ _ h

theorem memoryOk_copyBytes (h : memoryOk s) {dist n : Nat} (ht : copyBytes dist n s = .ok t) : memoryOk t := by
  obtain ⟨-, -, hwf⟩ := copyBytes_ok ht
  exact hwf h

theorem memoryOk_copyMatch (h : memoryOk s) {dist len : Nat} (ht : (copyMatch dist len s).outcome = .next t) : memoryOk t := by
  rcases copyMatch_next ht with hf | hc
  · exact memoryOk_of_window h (failedWith_window hf)
  · exact memoryOk_copyBytes h hc

theorem memoryOk_repLength (h : memoryOk s) {slot x : Nat} (ht : repLength slot x s = .next t) : memoryOk t := by
  have hu : memoryOk { s with lastLength := Operands.slotToLen slot x, phase := .symbols } := h
  exact memoryOk_copyMatch hu ht

theorem memoryOk_matchDist (h : memoryOk s) {slot low : Nat} (ht : matchDist slot low s = .next t) : memoryOk t := by
  have hu : memoryOk (matchRegisters (Operands.slotToDist slot low) (s.pendLen + Operands.lenPlus s.params slot) s) := h
  exact memoryOk_copyMatch hu ht

theorem memoryOk_execLastlen (h : memoryOk s) (ht : execLastlen s = .next t) : memoryOk t := by
  rcases execLastlen_next ht with rfl | hf | hc
  · exact h
  · exact memoryOk_of_window h (failedWith_window hf)
  · exact memoryOk_copyBytes h hc

/-- The flush leaves the window alone, and the wrap stores its tail byte by byte (R303). -/
theorem memoryOk_flushedAndWrapped (h : memoryOk s) (ht : flushedAndWrapped s t) : memoryOk t := by
  obtain ⟨u, hu, hw⟩ := ht
  obtain ⟨-, -, hwf⟩ := wrap_ok hw
  exact hwf (memoryOk_of_window h (flush_window hu))

theorem memoryOk_lastFlush (h : memoryOk s) {byEof : Bool} (ht : (lastFlush byEof s).outcome = .next t) : memoryOk t := by
  rcases lastFlush_next ht with ⟨v, hv, rfl⟩ | hs
  · exact memoryOk_of_window (memoryOk_flushedAndWrapped h hv) rfl
  · exact memoryOk_of_window h (sinkStopped_window hs)

theorem memoryOk_endWriteStep (h : memoryOk s) (ht : (endWriteStep s).outcome = .next t) : memoryOk t := by
  rcases endWriteStep_next ht with ⟨v, hv, rfl | rfl⟩ | hs
  · exact memoryOk_of_window (memoryOk_flushedAndWrapped h hv) rfl
  · exact memoryOk_of_window (memoryOk_flushedAndWrapped h hv) rfl
  · exact memoryOk_of_window h (sinkStopped_window hs)

theorem memoryOk_endBlock (h : memoryOk s) (ht : (endBlock s).outcome = .next t) : memoryOk t := by
  have ha : memoryOk (alignToByte s) := memoryOk_of_window h (advanced_alignToByte s).window
  rcases endBlock_next ht with hf | hl | rfl
  · exact memoryOk_of_window h (failedWith_window hf)
  · exact memoryOk_lastFlush ha hl
  · exact ha

/-- A `decode` call keeps the window or takes a new one with nothing in it (R291, log 8). -/
theorem memoryOk_execProps (h : memoryOk s) {r0 : BitVec 3} {pow frac : BitVec 5} {r1 v7 solid : Bool}
    (ht : execProps r0 pow frac r1 v7 solid s = .next t) : memoryOk t := by
  obtain ⟨u, rfl, rfl | ⟨-, rfl⟩ | ⟨ok, rfl⟩⟩ := execProps_next ht
  · exact h
  · exact memoryOk_of_window h (setupFile_window ..)
  · exact memoryOk_of_window (s := State.reset) Memory.wf_reset (setupFile_window ..)

end

/-- Settles O53: most actions leave the window alone, a byte produced and a wrap write it one address at a time, and a reset or a
new file starts with nothing listed. -/
theorem stepKeepsMemoryCanonical : Obligations.StepKeepsMemoryCanonical := by
  intro s t hs h
  have kept {u : State} (hu : advanced s u) : memoryOk u := memoryOk_of_window hs hu.window
  cases step_cases h with
  | waits _ result => rwa [result]
  | resets _ _ result =>
    rw [result]
    exact Memory.wf_reset
  | called args rest _ _ _ _ _ _ _ result =>
    have hcall : memoryOk { s with ctrl := rest, port := args } := hs
    exact memoryOk_execProps hcall result
  | fails u _ _ reader result => exact memoryOk_of_window (kept reader) (failedWith_window result)
  | writeStepEnds _ result => exact memoryOk_endWriteStep hs result
  | inputEnds u _ _ reader result => exact memoryOk_lastFlush (kept reader) result
  | blockEnds u _ _ reader result => exact memoryOk_endBlock (kept reader) result
  | levelsEnd _ _ result => exact memoryOk_of_window hs (levelsDone_window result)
  | tablesEnd _ _ result => exact memoryOk_of_window hs (tablesDone_window result)
  | header u _ _ _ _ _ _ _ reader result => exact memoryOk_of_window (kept reader) (readHeader_window result)
  | levels u _ _ _ reader result => exact memoryOk_of_window (kept reader) (by rw [result]; rfl)
  | escape u _ reader result => exact memoryOk_of_window (kept reader) (by rw [result])
  | lengths u _ _ _ reader result => exact memoryOk_of_window (kept reader) (by rw [result]; rfl)
  | repeats u _ _ _ reader result => exact memoryOk_of_window (kept reader) (repeatLength_window result)
  | literal u _ _ _ reader result => exact memoryOk_putByte (kept reader) (putByte_next result)
  | descriptor u _ _ reader result => exact memoryOk_of_window (kept reader) (beginDescriptor_window result)
  | lastMatch u _ _ reader result => exact memoryOk_execLastlen (kept reader) result
  | usesRep u _ _ _ reader result => exact memoryOk_of_window (kept reader) (by rw [result]; rfl)
  | matchSlot u _ _ _ _ reader _ result => exact memoryOk_of_window (kept reader) (by rw [result]; rfl)
  | lenSlot u _ _ _ reader _ result => exact memoryOk_repLength (kept reader) result
  | distSlot u _ _ _ reader _ result => exact memoryOk_matchDist (kept reader) result
  | integer u bs _ reader result =>
    rw [result]
    exact memoryOk_of_window (kept reader) (storeVU_window bs u)
  | filterType u row channels _ reader _ result =>
    rw [result]
    exact memoryOk_of_window (kept reader) (registerFilter_window row channels u)

end Sys2Proof.Machine
end

section
/-! PROOFS. No fault (R73, R75, R80): under the invariants every operation that reads or writes the window finds its bytes and its
room, and so does the flush of an error that it raises. -/

namespace Sys2Proof

/-! The operand of a length slot. -/

section
variable {c : DecodeCtx}

/-- Only the low four bits of a distance depend on the align code (R112, R234). -/
theorem readFields_align {fs : List Operands.Field} (h : Operands.Field.low4 ∉ fs) (al : Option Huff) (bits : List Bool) :
    readFields { c with align := al } fs bits = readFields c fs bits := by
  induction fs generalizing bits with
  | nil => rfl
  | cons f fs ih =>
    obtain ⟨hf, hfs⟩ := List.ne_and_not_mem_of_not_mem_cons h
    have hfield : readField { c with align := al } f bits = readField c f bits := by
      cases f with
      | raw n => rfl
      | low4 => exact absurd rfl hf
    simp only [readFields, hfield, ih hfs]

/-- The operand decoded after a length slot fits its extra bits, whatever the align code (R111). -/
theorem decode_lenSlot_operand {bits : List Bool} {i : Instr} {n : Nat} (hc : c.fmt = .lenSlot) (h : decode c bits = .ok i n) :
    i.operands.headD 0 < 2 ^ Operands.lenExtraBits i.symbol := by
  rcases decode_cases h with ⟨-, -, hp | hp⟩ | ⟨v, m, ops, k, hr, ho⟩
  · rw [hc] at hp
    cases hp
  · rw [hc] at hp
    cases hp
  · rw [hc] at hr ho
    have hraw : Operands.Field.low4 ∉ fieldsOf c.params .lenSlot v := by
      simp only [fieldsOf, Operands.lenFields]
      split <;> simp
    rw [← readFields_align hraw none] at hr
    have hfields := readFields_hold (fun H hH => by cases hH) hr
    obtain ⟨-, hsymbol, hoperands⟩ := ofRow_inv ho
    rw [hsymbol, hoperands c.params hfields]
    exact Machine.lenFields_head_lt hfields

end

end Sys2Proof

namespace Sys2Proof.Machine

section
variable {s u : State}

/-! Errors. -/

/-- Taking an error finds every byte that its flush moves (R80, R340). -/
structure errorReady (s : State) : Prop where
  pending : pendingOk s
  lap : s.lzSize ≤ s.lzWritten
  belowCursor : s.filled 0 s.windowPos

theorem registersOk.errorReady (h : registersOk s) (hq : pendingOk s) : errorReady s := ⟨hq, h.lap, h.belowCursor⟩

/-- No pending region ends before what has already been moved: the head is not complete, and the others lie behind it. -/
theorem pendingOk.regions (h : pendingOk s) : ∀ f ∈ s.queue, s.lzWritten ≤ f.startPos + f.size := by
  have hordered := h.ordered
  cases hq : s.queue with
  | nil => nofun
  | cons f rest =>
    rw [hq] at hordered
    obtain ⟨hfirst, -⟩ := List.pairwise_cons.1 hordered
    obtain ⟨hlen, hpart⟩ := h.head f rest hq
    have hhead : s.lzWritten ≤ f.startPos + f.size := by omega
    intro g hg
    rcases List.mem_cons.1 hg with rfl | hg
    · exact hhead
    · have := hfirst g hg
      omega

theorem errorReady.flushable (h : errorReady s) : s.flushable where
  lap := h.lap
  regions := h.pending.regions
  bytes i hi _ := h.belowCursor i hi (Nat.zero_le i)

/-- An error that a flush raises can be taken where the flush could begin (R341). -/
theorem errorReady.flushed (h : errorReady s) (hf : onlyFlushed s u) (hw : flushesTo s u) : errorReady u := by
  have hlap : s.lzSize ≤ u.lzWritten := h.lap.trans hw.onward
  refine ⟨hw.pending, ?_, ?_⟩
  · rw [hf]
    exact hlap
  · rw [hf]
    exact h.belowCursor

/-- An operation's end that is no fault, and where taking the error it may raise is none either. -/
def Flow.faultless (x : Flow State) : Prop :=
  match x with
  | .ok _ => True
  | .raised _ u => errorReady u
  | .fault _ => False

/-- One such operation after another is one. -/
theorem Flow.faultless_bind {x : Flow State} {f : State → Flow State} (hx : x.faultless) (hf : ∀ u, x = .ok u → (f u).faultless) :
    (x.bind f).faultless := by
  cases x with
  | ok u => exact hf u rfl
  | raised k u => exact hx
  | fault r => exact hx.elim

theorem errorReady.flush_faultless (h : errorReady s) : (flush s).faultless := by
  obtain ⟨u, hu | ⟨k, hu⟩⟩ := flush_total h.flushable
  · rw [hu]
    trivial
  · have hready := h.flushed (flush_raised hu) (h.pending.flush_raised hu)
    rw [hu]
    exact hready

theorem errorReady.takeError_ne_fault (h : errorReady s) (k : ErrorKind) (r : Fault) : takeError k s ≠ .fault r := by
  intro hr
  rcases takeError_cases k s with ⟨t, ht, -⟩ | ⟨r', -, hflush⟩
  · rw [ht] at hr
    cases hr
  · have := h.flush_faultless
    rw [hflush] at this
    exact this

theorem Flow.faultless.outcome_ne_fault {x : Flow State} (h : x.faultless) (r : Fault) : x.outcome ≠ .fault r := by
  cases x with
  | ok u => nofun
  | raised k u => exact errorReady.takeError_ne_fault h k r
  | fault r' => exact h.elim

/-! The ends of a write step and of a block. -/

theorem betweenOk.flushed (h : betweenOk s) (hf : onlyFlushed s u) (hw : flushesTo s u) : betweenOk u := by
  have hlap := h.lap.trans hw.onward
  rw [hf]
  exact { h with lap := hlap }

/-- The tail has been written, and the window has room for it at its start (R75, R303). -/
theorem betweenOk.wrap_faultless (h : betweenOk s) : (wrap s).faultless := by
  unfold wrap
  split
  · trivial
  · obtain ⟨tail, htail⟩ := windowRange_total (s := s) (i := s.windowSize) (n := s.windowPos - s.windowSize)
      fun i hi _ => h.belowCursor i (by omega) (Nat.zero_le i)
    have hroom : 0 + tail.length ≤ s.windowSize + Config.maxMatchLen := by
      have hlen := (windowRange_ok.1 htail).1
      have hpos := h.position
      omega
    obtain ⟨u, hu⟩ := windowStore_total hroom
    simp only [htail, hu, Flow.bind]
    trivial

theorem betweenOk.flushAndWrap_faultless (h : betweenOk s) (hq : pendingOk s) : (flushAndWrap s).faultless :=
  Flow.faultless_bind (h.errorReady hq).flush_faultless fun _ hu =>
    (h.flushed (flush_ok hu) (hq.flush_ok hu).1).wrap_faultless

theorem betweenOk.lastFlush_faultless (h : betweenOk s) (hq : pendingOk s) (byEof : Bool) : (Machine.lastFlush byEof s).faultless :=
  Flow.faultless_bind (h.flushAndWrap_faultless hq) fun _ _ => trivial

theorem betweenOk.endWriteStep_faultless (h : betweenOk s) (hq : pendingOk s) : (Machine.endWriteStep s).faultless :=
  Flow.faultless_bind (h.flushAndWrap_faultless hq) fun _ _ => by split <;> trivial

theorem insideOk.endBlock_faultless (h : insideOk s) (hq : queueOk s) : (Machine.endBlock s).faultless := by
  have hu := advanced_alignToByte s
  unfold Machine.endBlock
  split
  · exact h.errorReady hq.pending
  · split
    · exact (h.advance hu).between.lastFlush_faultless (hq.advance hu).pending false
    · trivial

/-! The ends of the table sections, and the elements outside the window. -/

theorem errorReady.levelsDone_faultless (h : errorReady s) : (levelsDone s).faultless := by
  unfold levelsDone
  split
  · exact h
  · split
    · exact h
    · trivial

theorem errorReady.tablesDone_faultless (h : errorReady s) : (tablesDone s).faultless := by
  simp only [tablesDone]
  split
  · exact h
  · split
    · exact { h with pending := { h.pending with } }
    · trivial

theorem errorReady.readHeader_ne_fault (h : errorReady s) {flags cx : Byte} {b7m1 : BitVec 3} {last tables : Bool} {size : List Byte}
    (r : Fault) : readHeader flags b7m1 last tables cx size s ≠ .fault r := by
  have hc : errorReady (commitHeader flags b7m1 last (leValue size) s) := { h with pending := { h.pending with } }
  simp only [readHeader]
  split_ifs
  · exact h.takeError_ne_fault _ r
  · nofun
  · nofun
  · exact hc.takeError_ne_fault _ r

theorem errorReady.repeatLength_ne_fault (h : errorReady s) (sym e : Nat) (r : Fault) : repeatLength sym e s ≠ .fault r := by
  unfold repeatLength
  split
  · exact h.takeError_ne_fault _ r
  · nofun

/-- A saturated queue is drained by one flush (R267). -/
theorem errorReady.beginDescriptor_faultless (h : errorReady s) : (beginDescriptor s).faultless := by
  refine Flow.faultless_bind ?_ fun _ _ => trivial
  split
  · exact Flow.faultless_bind h.flush_faultless fun v _ => by split <;> trivial
  · trivial

theorem execProps_ne_fault {r0 : BitVec 3} {pow frac : BitVec 5} {r1 v7 solid : Bool} (s : State) (r : Fault) :
    execProps r0 pow frac r1 v7 solid s ≠ .fault r := by
  simp only [execProps]
  split_ifs <;> nofun

/-! The elements that write the window. -/

/-- A copy of a match in range finds its source and its room (R75, R80, R237), and an error of R238 can be taken. -/
structure copyReady (s : State) : Prop extends errorReady s where
  wholeLap : s.lzSize ≠ 0 → s.filled 0 s.windowSize
  dictionary : s.dictSizeForCheck ≤ s.windowSize
  position : s.windowPos < s.windowSize

theorem insideOk.copyReady (h : insideOk s) (hq : pendingOk s) : copyReady s where
  toerrorReady := h.errorReady hq
  wholeLap := h.wholeLap
  dictionary := h.dictionary.1.le
  position := h.position

/-- A distance that passes the checks lies in the dictionary and, before the first wrap, not before the start (R238). -/
theorem badDistance_eq_false {dist : Nat} (h : s.badDistance dist = false) :
    dist ≤ s.dictSizeForCheck ∧ (s.lzSize = 0 → dist ≤ s.windowPos) := by
  simpa [State.badDistance] using h

/-- A match of at most MAX_MATCH_LEN bytes stays within the window's tail (R75, R232). -/
theorem copyReady.copyMatch_faultless (h : copyReady s) {dist len : Nat} (hdist : 1 ≤ dist) (hlen : len ≤ Config.maxMatchLen) :
    (copyMatch dist len s).faultless := by
  rcases copyMatch_cases dist len s with ⟨-, he⟩ | ⟨hgood, he⟩ <;> rw [he]
  · exact h.toerrorReady
  · obtain ⟨hdict, hstart⟩ := badDistance_eq_false hgood
    have hpos := h.position
    obtain ⟨t, ht, -⟩ := copyBytes_total hdist (hdict.trans h.dictionary) hstart ⟨h.belowCursor, h.wholeLap⟩
      (show s.windowPos + len ≤ s.windowSize + Config.maxMatchLen by omega)
    rw [ht]
    trivial

theorem insideOk.putByte_faultless (h : insideOk s) (b : Byte) : (Machine.putByte b s).faultless := by
  rw [putByte_ok.2 ⟨h.between.position, rfl⟩]
  trivial

theorem insideOk.execLastlen_ne_fault (h : insideOk s) (hq : pendingOk s) (r : Fault) : Machine.execLastlen s ≠ .fault r := by
  have hdist : s.repDist.r0.toNat ≠ 0 := fun hz => h.distances.1 (BitVec.eq_of_toNat_eq hz)
  unfold Machine.execLastlen
  split
  · nofun
  · exact ((h.copyReady hq).copyMatch_faultless (Nat.pos_of_ne_zero hdist) h.lastLength).outcome_ne_fault r

theorem insideOk.repLength_ne_fault (h : insideOk s) (hq : pendingOk s) {slot x : Nat} (hlen : Operands.slotToLen slot x ≤ 4097)
    (r : Fault) : Machine.repLength slot x s ≠ .fault r := by
  have hmax : Operands.slotToLen slot x ≤ Config.maxMatchLen := hlen.trans (by decide)
  have hdist : s.repDist.r0.toNat ≠ 0 := fun hz => h.distances.1 (BitVec.eq_of_toNat_eq hz)
  have hu : Machine.copyReady { s with lastLength := Operands.slotToLen slot x, phase := .symbols } :=
    { h.copyReady hq with pending := { hq with } }
  exact (hu.copyMatch_faultless (Nat.pos_of_ne_zero hdist) hmax).outcome_ne_fault r

/-- No distance slot gives the distance 0 (R235, R236). -/
theorem slotToDist_pos (slot low : Nat) : 1 ≤ Operands.slotToDist slot low := by
  unfold Operands.slotToDist
  split
  · decide
  · omega

theorem insideOk.matchDist_ne_fault (h : insideOk s) (hq : pendingOk s) (hpend : s.pendLen ≤ 4097) (slot low : Nat) (r : Fault) :
    Machine.matchDist slot low s ≠ .fault r := by
  have hmax : s.pendLen + Operands.lenPlus s.params slot ≤ Config.maxMatchLen := by
    have := lenPlus_le h.params slot
    simp only [Config.maxMatchLen]
    omega
  have hu : Machine.copyReady
      (matchRegisters (Operands.slotToDist slot low) (s.pendLen + Operands.lenPlus s.params slot) s) :=
    { h.copyReady hq with pending := { hq with } }
  exact (hu.copyMatch_faultless (slotToDist_pos slot low) hmax).outcome_ne_fault r

/-! Before the fetch. -/

/-- What stands before the next instruction is no fault. -/
def Before.faultless (b : Before) : Prop :=
  match b with
  | .act o => ∀ r, o ≠ .fault r
  | .go _ => True

theorem errorReady.prepared_faultless (h : errorReady s) {k : State → Before} (hk : ∀ u, advanced s u → (k u).faultless) :
    (prepared s k).faultless := by
  rcases prepared_cases s k with ⟨u, hu, he⟩ | he <;> rw [he]
  · exact hk u (advanced_prepare hu)
  · exact h.takeError_ne_fault .io

theorem beforeCall_faultless (s : State) : (beforeCall s).faultless := by
  unfold beforeCall
  split
  · exact fun _ => nofun
  · exact fun _ => nofun
  · trivial

theorem beforeSymbol_faultless (hq : queueOk s) (hs : cursorOk s) (hp : s.phase = .symbols) : (beforeSymbol s).faultless := by
  unfold beforeSymbol
  split
  · exact ((hs.between hp).endWriteStep_faultless hq.pending).outcome_ne_fault
  · rename_i htests
    have hroom : s.windowPos < s.limit := by
      simp only [State.limitReached, Bool.or_eq_true, decide_eq_true_eq, not_or] at htests
      omega
    refine (hs.registers.errorReady hq.pending).prepared_faultless fun u hu => ?_
    have hi : insideOk u := (hs.inside (by simp [hp]) fun _ => hroom).advance hu
    split
    · exact (hi.between.lastFlush_faultless (hq.advance hu).pending true).outcome_ne_fault
    · split
      · exact (hi.endBlock_faultless (hq.advance hu)).outcome_ne_fault
      · trivial

theorem errorReady.beforeNibble_faultless (h : errorReady s) : (beforeNibble s).faultless := by
  unfold beforeNibble
  split
  · exact h.levelsDone_faultless.outcome_ne_fault
  · exact h.prepared_faultless fun _ _ => trivial

theorem beforeLevelSymbol_faultless (hq : queueOk s) (hs : cursorOk s) : (beforeLevelSymbol s).faultless := by
  have h := hs.registers.errorReady hq.pending
  unfold beforeLevelSymbol
  split
  · exact h.tablesDone_faultless.outcome_ne_fault
  · refine h.prepared_faultless fun u hu => ?_
    split
    · exact ((hs.advance hu).registers.errorReady (hq.advance hu).pending).takeError_ne_fault .corruptedData
    · trivial

theorem before_faultless (hq : queueOk s) (hs : cursorOk s) : (before s).faultless := by
  have h := hs.registers.errorReady hq.pending
  unfold before
  cases hp : s.phase with
  | idle => exact beforeCall_faultless s
  | symbols => exact beforeSymbol_faultless hq hs hp
  | levelNib => exact h.beforeNibble_faultless
  | levelSym => exact beforeLevelSymbol_faultless hq hs
  | header | levelNib2 | vuDelta => exact h.prepared_faultless fun _ _ => trivial
  | lenSlot | distSlot | vuSize | filterType => trivial

/-! The fetch. -/

/-- The instruction that a running machine fetches does not fault, by the phase it is fetched in. -/
theorem exec_ne_fault {i : Instr} (hq : queueOk s) (hs : cursorOk s) (hr : s.running) (hu : advanced s u)
    (hroom : s.phase = .symbols → s.windowPos < s.limit) (hf : i.format = s.decodeCtx.fmt)
    (hoperand : s.phase = .lenSlot → i.operands.headD 0 < 2 ^ Operands.lenExtraBits i.symbol) (r : Fault) :
    exec i u ≠ .fault r := by
  have hi : insideOk u := (hs.inside hr hroom).advance hu
  have hqu := (hq.advance hu).pending
  have h := hi.errorReady hqu
  simp only [State.decodeCtx] at hf
  cases hp : s.phase with rw [hp] at hf
  | idle => exact absurd hp hr
  | header =>
    rcases exec_blockFlags hf u with ⟨flags, b7m1, last, tables, cx, size, he⟩ | he <;> rw [he]
    · exact h.readHeader_ne_fault r
    · exact h.takeError_ne_fault _ r
  | levelNib =>
    rcases exec_levelNib hf u with ⟨n, he⟩ | he <;> rw [he] <;> nofun
  | levelNib2 =>
    obtain ⟨c, n, he⟩ := exec_levelNib2 hf u
    rw [he]
    nofun
  | levelSym =>
    rcases exec_levelSym hf u with ⟨c, v, he⟩ | ⟨sym, e, he⟩ <;> rw [he]
    · nofun
    · exact h.repeatLength_ne_fault sym e r
  | symbols =>
    rcases exec_mainSym hf u with ⟨b, he⟩ | he | he | ⟨k, he⟩ | ⟨slot, he, -⟩ | he <;> rw [he]
    · exact (hi.putByte_faultless b).outcome_ne_fault r
    · exact h.beginDescriptor_faultless.outcome_ne_fault r
    · exact hi.execLastlen_ne_fault hqu r
    · nofun
    · nofun
    · exact h.takeError_ne_fault _ r
  | lenSlot =>
    obtain ⟨hslot, he⟩ := exec_lenSlot hf u
    rw [he]
    exact hi.repLength_ne_fault hqu (slotToLen_le hslot (hoperand hp)) r
  | distSlot =>
    obtain ⟨-, he⟩ := exec_distSlot hf u
    have hpend := (hs.advance hu).pending (hu.phase.trans hp)
    rw [he]
    exact hi.matchDist_ne_fault hqu hpend _ _ r
  | vuDelta | vuSize =>
    obtain ⟨bs, he⟩ := exec_vuSel hf u
    rw [he]
    nofun
  | filterType =>
    obtain ⟨row, channels, -, he⟩ := exec_filterType hf u
    rw [he]
    nofun

/-- A running machine's reader moves past an instruction's bits (R31). -/
theorem advanced.passed (hu : advanced s u) (hr : s.running) (n : Nat) : advanced s (u.passed n) := by
  rw [State.passed, if_neg (by rw [hu.phase]; exact hr)]
  exact advanced_trans hu (advanced_movePos u n)

/-- What a running machine does with the bits at its reader is no fault. -/
theorem fetched_ne_fault (hq : queueOk s) (hs : cursorOk s) (hb : before s = .go u) (hr : s.running) (hu : advanced s u)
    (hroom : s.phase = .symbols → s.windowPos < s.limit) (r : Fault) : step s ≠ .fault r := by
  have hpassed := hu.passed hr
  cases hi : fetch u with
  | ok i n =>
    rw [step_fetched hb hi]
    rw [fetch, hu.decodeCtx] at hi
    refine exec_ne_fault hq hs hr (hpassed n) hroom (decode_format hi) (fun hp => ?_) r
    exact decode_lenSlot_operand (by simp only [State.decodeCtx, hp]) hi
  | rejected j n =>
    rw [step_rejected hb hi]
    cases j with
    | emptyDecoder =>
      have h := (hs.advance (hpassed n)).registers.errorReady (hq.advance (hpassed n)).pending
      exact h.takeError_ne_fault _ r
    | noCode => nofun
    | noRow => nofun

end

/-- Settles O58: a flush moves bytes below the cursor, a wrap the tail, and a match that passes the checks of R238 reads written bytes
and ends within the tail; an error is taken in a state that can be flushed (`errorReady`). -/
theorem noStepFaults : Obligations.NoStepFaults := by
  intro s r hq hs
  have hact := before_faultless hq hs
  have hstands := before_stands s
  generalize hb : before s = b at hact hstands
  cases hstands with
  | acts _ =>
    rw [step_act hb]
    exact hact r
  | @calls u args rest idle call =>
    have hphase : u.phase = .idle := by rw [call]; exact idle
    obtain ⟨i, hi, hprops⟩ := fetch_idle hphase
    obtain ⟨r0, pow, frac, r1, v7, solid, he⟩ := exec_props hprops (u.passed 16)
    rw [step_fetched hb hi, he]
    exact execProps_ne_fault _ r
  | fetches running reader room => exact fetched_ne_fault hq hs hb running reader room r

end Sys2Proof.Machine
end

section
/-! PROOFS. Bit strings (R15, R143): what is written most significant bit first is the value that is read, and the other way round. -/

namespace Sys2Proof

@[simp] theorem toBits_length (n v : Nat) : (toBits n v).length = n := by
  induction n with
  | zero => rfl
  | succ n ih => simp [toBits, ih]

/-- The bits taken after a value stand below it. -/
theorem takeBits_eq (n acc : Nat) (bs : List Bool) : takeBits n acc bs = acc * 2 ^ n + bitsValue n bs := by
  unfold bitsValue
  induction n generalizing acc bs with
  | zero => simp [takeBits]
  | succ n ih =>
    cases bs with
    | nil => rw [takeBits, takeBits, ih, ih (2 * 0 + 1)]; ring
    | cons b bs => rw [takeBits, takeBits, ih, ih (2 * 0 + b.toNat)]; ring

theorem bitsValue_cons (n : Nat) (b : Bool) (bs : List Bool) : bitsValue (n + 1) (b :: bs) = b.toNat * 2 ^ n + bitsValue n bs := by
  rw [bitsValue, takeBits, takeBits_eq]
  simp

/-- The first `m` of `m + n` bits are the high ones. -/
theorem bitsValue_add (m n : Nat) (bs : List Bool) : bitsValue (m + n) bs = bitsValue m bs * 2 ^ n + bitsValue n (bs.drop m) := by
  have split (acc : Nat) : takeBits (m + n) acc bs = takeBits n (takeBits m acc bs) (bs.drop m) := by
    induction m generalizing acc bs with
    | zero => simp [takeBits]
    | succ m ih =>
      rw [Nat.add_right_comm]
      cases bs with
      | nil => simp only [takeBits, ih, List.drop_nil]
      | cons b bs => simp only [takeBits, ih, List.drop_succ_cons]
  rw [bitsValue, split, takeBits_eq]
  rfl

/-- A value that fits its width is read back, whatever follows it. -/
theorem bitsValue_toBits {n v : Nat} (rest : List Bool) (h : v < 2 ^ n) : bitsValue n (toBits n v ++ rest) = v := by
  have low : bitsValue n (toBits n v ++ rest) = v % 2 ^ n := by
    clear h
    induction n with
    | zero => simp [bitsValue, takeBits, Nat.mod_one]
    | succ n ih =>
      rw [toBits, List.cons_append, bitsValue_cons, ih, Nat.mod_pow_succ, Nat.toNat_testBit]
      ring
  rw [low, Nat.mod_eq_of_lt h]

/-- A bit above a value that fits its width is written before it. -/
theorem toBits_cons {n x : Nat} (b : Bool) (h : x < 2 ^ n) : toBits (n + 1) (b.toNat * 2 ^ n + x) = b :: toBits n x := by
  have hbit (k : Nat) : (b.toNat * 2 ^ n + x).testBit k = if k < n then x.testBit k else b.toNat.testBit (k - n) := by
    rw [Nat.mul_comm, Nat.testBit_two_pow_mul_add _ h]
  have low (k : Nat) (hk : k ≤ n) : toBits k (b.toNat * 2 ^ n + x) = toBits k x := by
    induction k with
    | zero => rfl
    | succ k ih => rw [toBits, toBits, hbit, if_pos (by omega), ih (by omega)]
  rw [toBits, hbit, if_neg (Nat.lt_irrefl n), Nat.sub_self, low n le_rfl]
  cases b <;> rfl

/-- The value of bits that are there, written again, is those bits. -/
theorem toBits_bitsValue {n : Nat} {bs : List Bool} (h : n ≤ bs.length) : toBits n (bitsValue n bs) = bs.take n := by
  induction n generalizing bs with
  | zero => rfl
  | succ n ih =>
    cases bs with
    | nil => simp at h
    | cons b bs =>
      rw [bitsValue_cons, toBits_cons b (bitsValue_lt n bs), ih (by simpa using h), List.take_succ_cons]

/-- A byte is read back from its eight bits. -/
theorem bitsValue_byteBits (b : Byte) (rest : List Bool) : bitsValue 8 (byteBits b ++ rest) = b.toNat :=
  bitsValue_toBits rest b.isLt

end Sys2Proof
end

section
/-! PROOFS. The canonical code (R174, R175): the tables of `Huff.ofLens` in closed form, the code word of a symbol as a number, and the
code space that the lengths take. -/

namespace Sys2Proof

/-! The tables. -/

/-- The share of the code space that the lengths 1 to `k` take, in units of 2^-15: where length `k + 1` starts (R174). -/
def codeStart (lens : List Nat) : Nat → Nat
  | 0 => 0
  | k + 1 => codeStart lens k + lens.count (k + 1) * 2 ^ (Config.maxCodeLen - (k + 1))

/-- How many symbols have a length of 1 to `k` (R175). -/
def codeOffset (lens : List Nat) : Nat → Nat
  | 0 => 0
  | k + 1 => codeOffset lens k + lens.count (k + 1)

/-- The symbols of length 1 to `k`, by length and then index (R174). -/
def codeSymbols (lens : List Nat) : Nat → List Nat
  | 0 => []
  | k + 1 => codeSymbols lens k ++ symbolsOfLen (k + 1) 0 lens

/-- The code word of symbol `s` of length `k` as a number (R174). -/
def codeNumber (lens : List Nat) (s k : Nat) : Nat :=
  codeStart lens (k - 1) / 2 ^ (Config.maxCodeLen - k) + (lens.take s).count k

/-- The 15-bit value `v` begins with the code word of symbol `s`, whose length is `k` (R174). -/
structure codeHolds (lens : List Nat) (s k v : Nat) : Prop where
  present : lens[s]? = some k
  positive : k ≠ 0
  begins : v / 2 ^ (Config.maxCodeLen - k) = codeNumber lens s k

theorem runningSums_getElem? {i : Nat} (a : Nat) (xs : List Nat) (h : i ≤ xs.length) :
    (runningSums a xs)[i]? = some (a + (xs.take i).sum) := by
  induction xs generalizing a i with
  | nil =>
    obtain rfl : i = 0 := by simpa using h
    rfl
  | cons x xs ih =>
    cases i with
    | zero => rfl
    | succ i =>
      rw [runningSums, List.getElem?_cons_succ, ih _ (by simpa using h), List.take_succ_cons, List.sum_cons, Nat.add_assoc]

@[simp] theorem codeLens_length : codeLens.length = 15 := rfl

@[simp] theorem codeLens_getElem {i : Nat} (h : i < codeLens.length) : codeLens[i] = i + 1 := by
  simp [codeLens]

/-- The threshold table is the closed form's (R174). -/
theorem ofLens_start_getElem? (F : Nat) (lens : List Nat) {i : Nat} (h : i ≤ 15) :
    (Huff.ofLens F lens).start[i]? = some (codeStart lens i) := by
  rw [Huff.ofLens, runningSums_getElem? _ _ (by simpa using h), Nat.zero_add]
  congr 1
  induction i with
  | zero => rfl
  | succ i ih =>
    rw [List.sum_take_succ _ _ (by simp; omega), ih (by omega), codeStart]
    simp [Nat.shiftLeft_eq]

/-- The symbol-offset table is the closed form's (R175). -/
theorem ofLens_off_getElem? (F : Nat) (lens : List Nat) {i : Nat} (h : i ≤ 15) :
    (Huff.ofLens F lens).off[i]? = some (codeOffset lens i) := by
  rw [Huff.ofLens, runningSums_getElem? _ _ (by simpa using h), Nat.zero_add]
  congr 1
  induction i with
  | zero => rfl
  | succ i ih =>
    rw [List.sum_take_succ _ _ (by simp; omega), ih (by omega), codeOffset]
    simp

theorem ofLens_syms (F : Nat) (lens : List Nat) : (Huff.ofLens F lens).syms = codeSymbols lens 15 := by
  simp [Huff.ofLens, codeLens, Config.maxCodeLen, codeSymbols, List.range_succ]

/-- The symbols of a length are as many as the entries of that length. -/
@[simp] theorem symbolsOfLen_length (k a : Nat) (ls : List Nat) : (symbolsOfLen k a ls).length = ls.count k := by
  induction ls generalizing a with
  | nil => rfl
  | cons l ls ih =>
    unfold symbolsOfLen
    split <;> simp [*]

/-- The symbols of a length stand in increasing order: each at the number of those before it (R174). -/
theorem symbolsOfLen_getElem? {k x : Nat} (a : Nat) {ls : List Nat} (h : ls[x]? = some k) :
    (symbolsOfLen k a ls)[(ls.take x).count k]? = some (a + x) := by
  induction ls generalizing a x with
  | nil => simp at h
  | cons l ls ih =>
    cases x with
    | zero =>
      obtain rfl : l = k := by simpa using h
      simp [symbolsOfLen]
    | succ x =>
      have hrest := ih (a + 1) (by simpa using h)
      rw [Nat.add_right_comm] at hrest
      unfold symbolsOfLen
      split <;> simp [Nat.add_assoc, *]

/-- A symbol listed for a length has that length, and as many before it as its place says (R174). -/
theorem symbolsOfLen_getElem?_inv {k r a y : Nat} {ls : List Nat} (h : (symbolsOfLen k a ls)[r]? = some y) :
    ∃ x, y = a + x ∧ ls[x]? = some k ∧ (ls.take x).count k = r := by
  induction ls generalizing a r with
  | nil => simp [symbolsOfLen] at h
  | cons l ls ih =>
    unfold symbolsOfLen at h
    split at h
    · rename_i hl
      cases r with
      | zero => exact ⟨0, by simpa using h.symm, by simp [hl], by simp⟩
      | succ r =>
        obtain ⟨x, hy, hx, hr⟩ := ih (by simpa using h)
        exact ⟨x + 1, by omega, by simpa using hx, by simp [hl, hr]⟩
    · rename_i hl
      obtain ⟨x, hy, hx, hr⟩ := ih h
      exact ⟨x + 1, by omega, by simpa using hx, by simp [hl, hr]⟩

@[simp] theorem codeSymbols_length (lens : List Nat) (n : Nat) : (codeSymbols lens n).length = codeOffset lens n := by
  induction n with
  | zero => rfl
  | succ n ih => simp [codeSymbols, codeOffset, ih]

theorem codeOffset_mono (lens : List Nat) : Monotone (codeOffset lens) :=
  monotone_nat_of_le_succ fun _ => Nat.le_add_right ..

theorem codeStart_mono (lens : List Nat) : Monotone (codeStart lens) :=
  monotone_nat_of_le_succ fun _ => Nat.le_add_right ..

/-- The symbol array holds the symbols of each length behind those of the shorter ones (R174, R175). -/
theorem codeSymbols_getElem? {lens : List Nat} {n i r : Nat} (hi : i < n) (hr : r < lens.count (i + 1)) :
    (codeSymbols lens n)[codeOffset lens i + r]? = (symbolsOfLen (i + 1) 0 lens)[r]? := by
  induction n with
  | zero => omega
  | succ n ih =>
    rw [codeSymbols]
    rcases Nat.lt_succ_iff_lt_or_eq.1 hi with hlt | rfl
    · have hnext : codeOffset lens (i + 1) ≤ codeOffset lens n := codeOffset_mono lens hlt
      rw [codeOffset] at hnext
      rw [List.getElem?_append_left (by simp; omega), ih hlt]
    · rw [List.getElem?_append_right (by simp)]
      simp

/-! The code space. -/

/-- One more symbol adds its share (R173). -/
theorem codeStart_cons (l : Nat) (ls : List Nat) (n : Nat) :
    codeStart (l :: ls) n = (if l = 0 ∨ n < l then 0 else 2 ^ (Config.maxCodeLen - l)) + codeStart ls n := by
  induction n with
  | zero => simp [codeStart, Nat.eq_zero_or_pos]
  | succ n ih =>
    rw [codeStart, codeStart, ih, List.count_cons, Nat.add_mul]
    rcases Nat.lt_trichotomy l (n + 1) with hl | rfl | hl
    · simp [show ¬ n < l by omega, show ¬ n + 1 < l by omega, show l ≠ n + 1 by omega]
      omega
    · simp
      omega
    · simp [show n < l by omega, hl, show l ≠ n + 1 by omega]

/-- The Kraft sum is the share of all lengths (R173). -/
theorem kraftSum_eq_codeStart {lens : List Nat} (h : ∀ l ∈ lens, l ≤ 15) : kraftSum lens = codeStart lens 15 := by
  induction lens with
  | nil => rfl
  | cons l ls ih =>
    obtain ⟨hl, hls⟩ := List.forall_mem_cons.1 h
    rw [kraftSum, codeStart_cons, ih hls]
    simp [Nat.not_lt.2 hl]

/-- The share below a length is a whole number of its code words (R174). -/
theorem codeStart_dvd (lens : List Nat) (i : Nat) : 2 ^ (Config.maxCodeLen - i) ∣ codeStart lens i := by
  induction i with
  | zero => simp [codeStart]
  | succ i ih =>
    have hshorter : 2 ^ (Config.maxCodeLen - (i + 1)) ∣ codeStart lens i := (Nat.pow_dvd_pow 2 (by omega)).trans ih
    exact Nat.dvd_add hshorter (Nat.dvd_mul_left ..)

end Sys2Proof
end

section
/-! PROOFS. The threshold search (R178): it finds a symbol exactly on the values that begin with the symbol's code word, and so reading
a symbol undoes writing its code word. -/

namespace Sys2Proof

/-! The search. -/

/-- The search answers the first threshold above the value. -/
theorem findLen_eq_some {v k m : Nat} {bs : List Nat} :
    findLen v k bs = some m ↔ ∃ i, m = k + i ∧ (∃ b, bs[i]? = some b ∧ v < b) ∧ ∀ j < i, ∀ b, bs[j]? = some b → b ≤ v := by
  induction bs generalizing k with
  | nil => simp [findLen]
  | cons b bs ih =>
    unfold findLen
    split
    · rename_i hb
      constructor
      · rintro ⟨⟩
        exact ⟨0, rfl, ⟨b, rfl, hb⟩, by simp⟩
      · rintro ⟨i, rfl, -, hbelow⟩
        cases i with
        | zero => rfl
        | succ i => exact absurd (hbelow 0 (by omega) b rfl) (by omega)
    · rename_i hb
      rw [ih]
      constructor
      · rintro ⟨i, rfl, habove, hbelow⟩
        refine ⟨i + 1, by omega, habove, fun j hj c hc => ?_⟩
        cases j with
        | zero =>
          obtain rfl : b = c := by simpa using hc
          omega
        | succ j => exact hbelow j (by omega) c hc
      · rintro ⟨i, rfl, ⟨c, hc, hv⟩, hbelow⟩
        cases i with
        | zero =>
          obtain rfl : b = c := by simpa using hc
          exact absurd hv hb
        | succ i => exact ⟨i, by omega, ⟨c, hc, hv⟩, fun j hj d hd => hbelow (j + 1) (by omega) d hd⟩

section
variable {lens : List Nat} {v : Nat}

theorem ofLens_start_getD (F : Nat) (lens : List Nat) {i : Nat} (h : i ≤ 15) : (Huff.ofLens F lens).start.getD i 0 = codeStart lens i := by
  rw [List.getD_eq_getElem?_getD, ofLens_start_getElem? F lens h, Option.getD_some]

theorem ofLens_off_getD (F : Nat) (lens : List Nat) {i : Nat} (h : i ≤ 15) : (Huff.ofLens F lens).off.getD i 0 = codeOffset lens i := by
  rw [List.getD_eq_getElem?_getD, ofLens_off_getElem? F lens h, Option.getD_some]

/-- There are thresholds for the lengths 1 to 15 and the end of the last one (R174). -/
theorem ofLens_start_length (F : Nat) (lens : List Nat) : (Huff.ofLens F lens).start.length = 16 := by
  have length_eq (a : Nat) (xs : List Nat) : (runningSums a xs).length = xs.length + 1 := by
    induction xs generalizing a with
    | nil => rfl
    | cons x xs ih => simp [runningSums, ih]
  rw [Huff.ofLens, length_eq]
  simp

/-- The length found for a value is the one between whose thresholds it lies (R178). -/
theorem findLen_start {F k : Nat} :
    findLen v 1 (Huff.ofLens F lens).start.tail = some k ↔
      ∃ i < 15, k = i + 1 ∧ codeStart lens i ≤ v ∧ v < codeStart lens (i + 1) := by
  have hlen := ofLens_start_length F lens
  have threshold {j : Nat} (hj : j < 15) : (Huff.ofLens F lens).start.tail[j]? = some (codeStart lens (j + 1)) := by
    rw [List.getElem?_tail, ofLens_start_getElem? F lens (by omega)]
  rw [findLen_eq_some]
  constructor
  · rintro ⟨i, rfl, ⟨b, hb, hv⟩, hbelow⟩
    have hi : i < 15 := by
      have := (List.getElem?_eq_some_iff.1 hb).1
      simp only [List.length_tail] at this
      omega
    obtain rfl : codeStart lens (i + 1) = b := by simpa [threshold hi] using hb
    refine ⟨i, hi, by omega, ?_, hv⟩
    cases i with
    | zero => exact Nat.zero_le v
    | succ i => exact hbelow i (by omega) _ (threshold (by omega))
  · rintro ⟨i, hi, rfl, hle, hlt⟩
    refine ⟨i, by omega, ⟨_, threshold hi, hlt⟩, fun j hj b hb => ?_⟩
    obtain rfl : codeStart lens (j + 1) = b := by simpa [threshold (hj.trans hi)] using hb
    exact (codeStart_mono lens hj).trans hle

/-- Between the thresholds of a length the symbols of that length follow each other, each on its share (R175). -/
theorem symbolAt_ofLens {F i : Nat} (hi : i < 15) (hle : codeStart lens i ≤ v) (hlt : v < codeStart lens (i + 1)) :
    symbolAt (Huff.ofLens F lens).start (Huff.ofLens F lens).off (Huff.ofLens F lens).syms v (i + 1) =
      (symbolsOfLen (i + 1) 0 lens)[(v - codeStart lens i) / 2 ^ (Config.maxCodeLen - (i + 1))]? := by
  rw [symbolAt, Nat.add_sub_cancel, ofLens_start_getD F lens hi.le, ofLens_off_getD F lens hi.le, ofLens_syms,
    Nat.shiftRight_eq_div_pow, codeSymbols_getElem? hi]
  rw [codeStart] at hlt
  exact Nat.div_lt_of_lt_mul (by rw [Nat.mul_comm]; omega)

/-- The place of a value among the shares of its length is the place of its leading bits among the code words. -/
theorem sub_codeStart_div (lens : List Nat) (v i : Nat) :
    (v - codeStart lens i) / 2 ^ (Config.maxCodeLen - (i + 1)) =
      v / 2 ^ (Config.maxCodeLen - (i + 1)) - codeStart lens i / 2 ^ (Config.maxCodeLen - (i + 1)) := by
  obtain ⟨q, hq⟩ := (Nat.pow_dvd_pow 2 (by omega : Config.maxCodeLen - (i + 1) ≤ Config.maxCodeLen - i)).trans (codeStart_dvd lens i)
  rw [hq, Nat.sub_mul_div, Nat.mul_div_cancel_left _ (Nat.two_pow_pos _)]

/-- A value that begins with a code word lies between the thresholds of its length (R174, R178). -/
theorem codeHolds.range {s i : Nat} (h : codeHolds lens s (i + 1) v) : codeStart lens i ≤ v ∧ v < codeStart lens (i + 1) := by
  obtain ⟨hpresent, -, hbegins⟩ := h
  have hwhole : codeStart lens i / 2 ^ (Config.maxCodeLen - (i + 1)) * 2 ^ (Config.maxCodeLen - (i + 1)) = codeStart lens i :=
    Nat.div_mul_cancel ((Nat.pow_dvd_pow 2 (by omega)).trans (codeStart_dvd lens i))
  have hcount : (lens.take s).count (i + 1) < lens.count (i + 1) := by
    simpa using (List.getElem?_eq_some_iff.1 (symbolsOfLen_getElem? 0 hpresent)).1
  have hshare := Nat.mul_le_mul_right (2 ^ (Config.maxCodeLen - (i + 1))) hcount
  have hunit := Nat.two_pow_pos (Config.maxCodeLen - (i + 1))
  rw [Nat.succ_mul] at hshare
  rw [codeNumber, Nat.add_sub_cancel, Nat.div_eq_iff hunit, Nat.add_mul, hwhole] at hbegins
  rw [codeStart]
  omega

/-- THE SEARCH: it answers a symbol exactly on the values that begin with the symbol's code word (R174, R178). -/
theorem lookup_ofLens_eq_some {F s k : Nat} (hl : ∀ l ∈ lens, l ≤ 15) :
    lookup (Huff.ofLens F lens).start (Huff.ofLens F lens).off (Huff.ofLens F lens).syms v = some (s, k) ↔ codeHolds lens s k v := by
  unfold lookup
  constructor
  · intro h
    split at h
    · cases h
    · rename_i k' hk
      obtain ⟨s', hs, heq⟩ := Option.map_eq_some_iff.1 h
      cases heq
      obtain ⟨i, hi, rfl, hle, hlt⟩ := findLen_start.1 hk
      rw [symbolAt_ofLens hi hle hlt, sub_codeStart_div] at hs
      obtain ⟨x, hx, hpresent, hplace⟩ := symbolsOfLen_getElem?_inv hs
      obtain rfl : s = x := by omega
      have hstart := Nat.div_le_div_right (c := 2 ^ (Config.maxCodeLen - (i + 1))) hle
      exact ⟨hpresent, by omega, by rw [codeNumber, Nat.add_sub_cancel, hplace]; omega⟩
  · intro h
    obtain ⟨i, rfl⟩ := Nat.exists_eq_add_one_of_ne_zero h.positive
    have hi : i < 15 := hl _ (List.mem_of_getElem? h.present)
    obtain ⟨hle, hlt⟩ := h.range
    have hplace : (v - codeStart lens i) / 2 ^ (Config.maxCodeLen - (i + 1)) = (lens.take s).count (i + 1) := by
      rw [sub_codeStart_div, h.begins, codeNumber, Nat.add_sub_cancel, Nat.add_sub_cancel_left]
    rw [findLen_start.2 ⟨i, hi, rfl, hle, hlt⟩]
    simp only [symbolAt_ofLens hi hle hlt, hplace, symbolsOfLen_getElem? 0 h.present, Nat.zero_add, Option.map_some]

/-- Every value below the last threshold is found (R178). -/
theorem lookup_ofLens_isSome {F : Nat} (hv : v < codeStart lens 15) :
    ∃ r, lookup (Huff.ofLens F lens).start (Huff.ofLens F lens).off (Huff.ofLens F lens).syms v = some r := by
  have between (n : Nat) (hn : n ≤ 15) (hv : v < codeStart lens n) : ∃ i < 15, codeStart lens i ≤ v ∧ v < codeStart lens (i + 1) := by
    induction n with
    | zero => exact absurd hv (Nat.not_lt_zero v)
    | succ n ih =>
      by_cases hbelow : v < codeStart lens n
      · exact ih (by omega) hbelow
      · exact ⟨n, by omega, by omega, hv⟩
  obtain ⟨i, hi, hle, hlt⟩ := between 15 le_rfl hv
  have hplace : (v - codeStart lens i) / 2 ^ (Config.maxCodeLen - (i + 1)) < (symbolsOfLen (i + 1) 0 lens).length := by
    rw [codeStart] at hlt
    rw [symbolsOfLen_length]
    exact Nat.div_lt_of_lt_mul (by rw [Nat.mul_comm]; omega)
  rw [lookup, findLen_start.2 ⟨i, hi, rfl, hle, hlt⟩]
  simp only [symbolAt_ofLens hi hle hlt, List.getElem?_eq_getElem hplace, Option.map_some]
  exact ⟨_, rfl⟩

/-! Accepted tables. -/

/-- What every accepted table has (R172, R173): lengths of at most 15 and code words that fit the code space. -/
theorem buildAccepts_bounds {mode : BuildMode} (h : buildAccepts mode lens = true) :
    (∀ l ∈ lens, l ≤ 15) ∧ codeStart lens 15 ≤ 2 ^ 15 := by
  simp only [buildAccepts, Bool.and_eq_true, List.all_eq_true, decide_eq_true_eq] at h
  obtain ⟨hl, hsum⟩ := h
  rw [kraftSum_eq_codeStart hl] at hsum
  refine ⟨hl, ?_⟩
  cases mode with
  | full => exact (of_decide_eq_true hsum).le
  | partialCode => exact of_decide_eq_true hsum
  | fullOrEmpty =>
    rcases Bool.or_eq_true_iff.1 hsum with hfull | hempty
    · exact (of_decide_eq_true hfull).le
    · exact (of_decide_eq_true hempty).trans_le (Nat.zero_le _)

/-- A full-or-empty table has no symbol, or its code words fill the code space (R173). -/
theorem buildAccepts_fullOrEmpty (h : buildAccepts .fullOrEmpty lens = true) :
    lens.all (· == 0) = true ∨ codeStart lens 15 = 2 ^ 15 := by
  simp only [buildAccepts, Bool.and_eq_true, List.all_eq_true, decide_eq_true_eq, Bool.or_eq_true] at h
  obtain ⟨hl, hfull | hempty⟩ := h
  · exact .inr (kraftSum_eq_codeStart hl ▸ hfull)
  · refine .inl ?_
    clear hl
    induction lens with
    | nil => rfl
    | cons l ls ih =>
      rw [kraftSum, Nat.add_eq_zero_iff] at hempty
      obtain ⟨hshare, hrest⟩ := hempty
      have hl : l = 0 := by simpa using hshare
      simpa [hl] using ih hrest

/-- A code word fits its length (R174). -/
theorem codeNumber_lt {s k : Nat} {mode : BuildMode} (ha : buildAccepts mode lens = true) (hs : lens[s]? = some k) (hk : k ≠ 0) :
    codeNumber lens s k < 2 ^ k := by
  obtain ⟨hl, hspace⟩ := buildAccepts_bounds ha
  obtain ⟨i, rfl⟩ := Nat.exists_eq_add_one_of_ne_zero hk
  have hi : i < 15 := hl _ (List.mem_of_getElem? hs)
  have hunit := Nat.two_pow_pos (Config.maxCodeLen - (i + 1))
  have hfirst : codeHolds lens s (i + 1) (codeNumber lens s (i + 1) * 2 ^ (Config.maxCodeLen - (i + 1))) :=
    ⟨hs, hk, Nat.mul_div_cancel _ hunit⟩
  have hlast : codeStart lens (i + 1) ≤ codeStart lens 15 := codeStart_mono lens hi
  have hbound : codeNumber lens s (i + 1) * 2 ^ (Config.maxCodeLen - (i + 1)) < 2 ^ (i + 1) * 2 ^ (Config.maxCodeLen - (i + 1)) := by
    rw [← Nat.pow_add, show i + 1 + (Config.maxCodeLen - (i + 1)) = 15 by simp [Config.maxCodeLen]; omega]
    exact hfirst.range.2.trans_le (hlast.trans hspace)
  exact Nat.lt_of_mul_lt_mul_right hbound

/-! Reading and writing a symbol. -/

/-- The code word written for a symbol (R108, R174). -/
theorem codeBits_ofLens {F s k : Nat} (hl : ∀ l ∈ lens, l ≤ 15) (hs : lens[s]? = some k) (hk : k ≠ 0) :
    (Huff.ofLens F lens).codeBits s = toBits k (codeNumber lens s k) := by
  obtain ⟨i, rfl⟩ := Nat.exists_eq_add_one_of_ne_zero hk
  have hi : i < 15 := hl _ (List.mem_of_getElem? hs)
  have hcode : (Huff.ofLens F lens).codeOf s = some (codeNumber lens s (i + 1), i + 1) := by
    have hlens : (Huff.ofLens F lens).lens = lens := rfl
    simp only [Huff.codeOf, hlens, hs, codeNumber, Nat.add_sub_cancel, ofLens_start_getD F lens hi.le, Nat.shiftRight_eq_div_pow]
  simp only [Huff.codeBits, hcode]

/-- The decoder answers a symbol exactly where the stream begins with the symbol's code word (R178). -/
theorem decodeBits_ofLens_eq_ok {F s k : Nat} {bits : List Bool} (hl : ∀ l ∈ lens, l ≤ 15) :
    (Huff.ofLens F lens).decodeBits bits = .ok (s, k) ↔ lens[s]? = some k ∧ k ≠ 0 ∧ bitsValue k bits = codeNumber lens s k := by
  have hleading (hk : k ≤ 15) : bitsValue Config.maxCodeLen bits / 2 ^ (Config.maxCodeLen - k) = bitsValue k bits := by
    have hsplit := bitsValue_add k (Config.maxCodeLen - k) bits
    rw [show k + (Config.maxCodeLen - k) = Config.maxCodeLen by simp [Config.maxCodeLen]; omega] at hsplit
    rw [hsplit, Nat.add_comm, Nat.add_mul_div_right _ _ (Nat.two_pow_pos _), Nat.div_eq_of_lt (bitsValue_lt _ _), Nat.zero_add]
  have hempty : (Huff.ofLens F lens).empty = lens.all (· == 0) := rfl
  simp only [Huff.decodeBits, Huff.decodeValue, hempty]
  constructor
  · intro h
    split at h
    · cases h
    · split at h <;> cases h
      rename_i hlookup
      obtain ⟨hpresent, hpos, hbegins⟩ := (lookup_ofLens_eq_some hl).1 hlookup
      exact ⟨hpresent, hpos, by rw [← hbegins, hleading (hl k (List.mem_of_getElem? hpresent))]⟩
  · rintro ⟨hpresent, hpos, hbegins⟩
    have hmem := List.mem_of_getElem? hpresent
    have hsome : ¬ lens.all (· == 0) = true := by
      simp only [List.all_eq_true, beq_iff_eq]
      exact fun hzero => hpos (hzero k hmem)
    rw [if_neg hsome, (lookup_ofLens_eq_some hl).2 ⟨hpresent, hpos, (hleading (hl k hmem)).trans hbegins⟩]

end

/-- A decoder reads the code word it has for a symbol, whatever follows (R178). -/
theorem readSymbol_codeBits {H : Huff} {s : Nat} (h : H.hasWord s) (rest : List Bool) :
    readSymbol H (H.codeBits s ++ rest) = .ok (s, (H.codeBits s).length) := by
  obtain ⟨F, lens, ha, rfl, hs⟩ := h
  obtain ⟨hl, -⟩ := buildAccepts_bounds ha
  obtain ⟨k, hpresent, hk⟩ : ∃ k, lens[s]? = some k ∧ k ≠ 0 := by
    rw [List.getD_eq_getElem?_getD] at hs
    cases hget : lens[s]? with
    | none => simp [hget] at hs
    | some k => exact ⟨k, rfl, by simpa [hget] using hs⟩
  rw [readSymbol, codeBits_ofLens hl hpresent hk, toBits_length,
    (decodeBits_ofLens_eq_ok hl).2 ⟨hpresent, hk, bitsValue_toBits rest (codeNumber_lt ha hpresent hk)⟩]

/-- The bits read as a symbol are its code word (R174, R178). -/
theorem codeBits_of_readSymbol {H : Huff} {n s k : Nat} {bits : List Bool} (hH : H.builtFor n)
    (h : readSymbol H bits = .ok (s, k)) (hk : k ≤ bits.length) : H.codeBits s = bits.take k := by
  obtain ⟨F, lens, -, ha, rfl⟩ := hH
  obtain ⟨hl, -⟩ := buildAccepts_bounds ha
  unfold readSymbol at h
  split at h <;> cases h
  rename_i hd
  obtain ⟨hpresent, hpos, hbits⟩ := (decodeBits_ofLens_eq_ok hl).1 hd
  rw [codeBits_ofLens hl hpresent hpos, ← hbits, toBits_bitsValue hk]

/-- A decoder built for `n` symbols reads one of them from every stream, unless it has none at all (R173, R180). -/
theorem readSymbol_total {H : Huff} {n : Nat} (hH : H.builtFor n) (bits : List Bool) :
    (∃ s k, readSymbol H bits = .ok (s, k) ∧ s < n) ∨ readSymbol H bits = .error .emptyDecoder := by
  have hbuilt := hH
  obtain ⟨F, lens, -, ha, rfl⟩ := hH
  by_cases hnone : (Huff.ofLens F lens).empty = true
  · exact .inr (by simp only [readSymbol, Huff.decodeBits, Huff.decodeValue, if_pos hnone, HuffReject.toReject])
  · have hv : bitsValue Config.maxCodeLen bits < codeStart lens 15 :=
      (buildAccepts_fullOrEmpty ha).resolve_left hnone ▸ bitsValue_lt _ bits
    obtain ⟨⟨s, k⟩, hr⟩ := lookup_ofLens_isSome (F := F) hv
    have hread : readSymbol (Huff.ofLens F lens) bits = .ok (s, k) := by
      simp only [readSymbol, Huff.decodeBits, Huff.decodeValue, if_neg hnone, hr]
    exact .inl ⟨s, k, hread, readSymbol_lt hbuilt hread⟩

end Sys2Proof
end

section
/-! PROOFS. Rows and fields (30_encoding.md): a table value and the fields after it are read back from what is written for them, and
written again as they were read. -/

namespace Sys2Proof

open Operands (Field)

/-! Rows. -/

/-- The row of an instruction's table value and operand values is the instruction (R132). -/
theorem rowTrip (i : Instr) : Laws.RowTrip.Statement i := by
  cases i
  case props r0 pow frac r1 v7 solid => exact Laws.RowTrip.props r0 pow frac r1 v7 solid
  case blkhdr0 b7m1 r5 last tables cx s0 => exact Laws.RowTrip.blkhdr0 b7m1 r5 last tables cx s0
  case blkhdr1 b7m1 r5 last tables cx s0 s1 => exact Laws.RowTrip.blkhdr1 b7m1 r5 last tables cx s0 s1
  case blkhdr2 b7m1 r5 last tables cx s0 s1 s2 => exact Laws.RowTrip.blkhdr2 b7m1 r5 last tables cx s0 s1 s2
  case blkhdrNum3 b7m1 r5 last tables cx => exact Laws.RowTrip.blkhdrNum3 b7m1 r5 last tables cx
  case lit b => exact Laws.RowTrip.lit b
  case vu32Sel0 b0 => exact Laws.RowTrip.vu32Sel0 b0
  case vu32Sel1 b0 b1 => exact Laws.RowTrip.vu32Sel1 b0 b1
  case vu32Sel2 b0 b1 b2 => exact Laws.RowTrip.vu32Sel2 b0 b1 b2
  case vu32Sel3 b0 b1 b2 b3 => exact Laws.RowTrip.vu32Sel3 b0 b1 b2 b3
  case typeDelta m => exact Laws.RowTrip.typeDelta m
  all_goals exact fun _ _ _ _ => rfl

/-- The bits of an instruction that is neither the property bytes nor a header: its table value and its fields (R132). -/
theorem encode_row (c : DecodeCtx) {i : Instr} (hp : i.format ≠ .props) (hb : i.format ≠ .blockFlags) :
    encode c i = valueBits c i.symbol ++ fieldsBits c (fieldsOf c.params i.format i.symbol) i.operands := by
  cases i
  case props | blkhdr0 | blkhdr1 | blkhdr2 | blkhdrNum3 => contradiction
  all_goals rfl

/-- How many table values a format has on a machine with parameters `P` (R132, R170): the values of a raw field, or the symbols of
an alphabet. -/
def valueCount (P : Config.Params) : Format → Nat
  | .levelNib => 2 ^ 4
  | .levelNib2 => 2 ^ 4
  | .vuSel => 2 ^ 2
  | .filterType => 2 ^ 3
  | f => alphabetSize P f

/-- A table value of a raw format fits the format's field (R105, R116, R117). -/
theorem symbol_lt_valueCount (P : Config.Params) {i : Instr} (hs : i.format.isSymbol = false) (hp : i.format ≠ .props)
    (hb : i.format ≠ .blockFlags) : i.symbol < valueCount P i.format := by
  cases i <;> cases hs
  case props | blkhdr0 | blkhdr1 | blkhdr2 | blkhdrNum3 => contradiction
  all_goals exact Nat.le_of_ble_eq_true rfl

section
variable {c : DecodeCtx}

/-! Fields. -/

/-- A field is read back from its bits, whatever follows, where the align code has a word for it (R112, R234). -/
theorem readField_fieldBits {f : Field} {v : Nat} (rest : List Bool) (hf : f.holds v = true)
    (ha : ∀ H, c.align = some H → f = .low4 → H.hasWord v) :
    readField c f (fieldBits c f v ++ rest) = .ok (v, (fieldBits c f v).length) := by
  cases f with
  | raw n => simp only [readField, fieldBits, toBits_length, bitsValue_toBits rest (of_decide_eq_true hf)]
  | low4 =>
    have hlt : v < 2 ^ 4 := of_decide_eq_true hf
    simp only [readField, fieldBits]
    split
    · rw [toBits_length, bitsValue_toBits rest hlt]
    · rename_i H hH
      exact readSymbol_codeBits (ha H hH rfl) rest

/-- Fields are read back from their bits, whatever follows. -/
theorem readFields_fieldsBits {fs : List Field} {vs : List Nat} (rest : List Bool) (hf : fieldsHold fs vs = true)
    (ha : ∀ H v, c.align = some H → (Field.low4, v) ∈ fs.zip vs → H.hasWord v) :
    readFields c fs (fieldsBits c fs vs ++ rest) = .ok (vs, (fieldsBits c fs vs).length) := by
  induction fs generalizing vs with
  | nil =>
    cases vs with
    | nil => rfl
    | cons v vs => simp [fieldsHold] at hf
  | cons f fs ih =>
    cases vs with
    | nil => simp [fieldsHold] at hf
    | cons v vs =>
      obtain ⟨hfirst, hrest⟩ := Bool.and_eq_true_iff.1 hf
      have hread := readField_fieldBits (fieldsBits c fs vs ++ rest) hfirst fun H hH h => ha H v hH (by simp [h])
      have hreads := ih hrest fun H w hH hw => ha H w hH (by simp [hw])
      simp only [readFields, fieldsBits, List.append_assoc, hread, List.drop_left, hreads, List.length_append]

/-- The bits read as a field are those written for it. -/
theorem fieldBits_of_readField (ha : ∀ H, c.align = some H → H.builtFor Config.alignSize) {f : Field} {bits : List Bool} {v n : Nat}
    (h : readField c f bits = .ok (v, n)) (hn : n ≤ bits.length) : fieldBits c f v = bits.take n := by
  cases f with
  | raw m =>
    cases h
    exact toBits_bitsValue hn
  | low4 =>
    simp only [readField] at h
    simp only [fieldBits]
    split at h
    · cases h
      exact toBits_bitsValue hn
    · rename_i H hH
      exact codeBits_of_readSymbol (ha H hH) h hn

/-- The bits read as fields are those written for them. -/
theorem fieldsBits_of_readFields (ha : ∀ H, c.align = some H → H.builtFor Config.alignSize) {fs : List Field} {bits : List Bool}
    {vs : List Nat} {n : Nat} (h : readFields c fs bits = .ok (vs, n)) (hn : n ≤ bits.length) : fieldsBits c fs vs = bits.take n := by
  induction fs generalizing bits vs n with
  | nil => cases h; rfl
  | cons f fs ih =>
    simp only [readFields] at h
    split at h
    · cases h
    · rename_i v m hv
      split at h <;> cases h
      rename_i ws k hws
      rw [fieldsBits, fieldBits_of_readField ha hv (by omega), ih hws (by simp; omega), List.take_add]

/-- Only a distance has low bits that an align code may carry (R112). -/
theorem low4_mem_fieldsOf {P : Config.Params} {f : Format} {v : Nat} (h : Field.low4 ∈ fieldsOf P f v) : f = .distSlot := by
  have slot {s : Nat} : Field.low4 ∉ Operands.lenFields s := by
    unfold Operands.lenFields
    split <;> simp
  cases f with
  | distSlot => rfl
  | lenSlot => exact absurd h slot
  | mainSym =>
    simp only [fieldsOf, Operands.mainFields] at h
    split at h
    · exact absurd h slot
    · simp at h
  | levelSym =>
    simp only [fieldsOf, Operands.levelFields] at h
    split at h <;> simp at h
  | vuSel => simp [fieldsOf, Operands.vuFields] at h
  | filterType =>
    simp only [fieldsOf, Operands.filterFields] at h
    split at h <;> simp at h
  | levelNib | levelNib2 | props | blockFlags => simp [fieldsOf] at h

/-- The low four bits of a distance stand last among the fields of a row (R112). -/
theorem low4_last {P : Config.Params} {f : Format} {v w : Nat} {ops : List Nat} (hf : fieldsHold (fieldsOf P f v) ops = true)
    (hw : (Field.low4, w) ∈ (fieldsOf P f v).zip ops) : ops.getLast? = some w := by
  obtain rfl := low4_mem_fieldsOf (List.of_mem_zip hw).1
  simp only [fieldsOf, Operands.distFields] at hf hw
  split_ifs at hf hw
  · simp at hw
  · simpa using (List.of_mem_zip hw).1
  · match ops with
    | [x] => simpa [eq_comm] using hw
    | [] => simp at hw
    | _ :: _ :: _ => simp [fieldsHold] at hf
  · match ops with
    | [x, y] => simpa [eq_comm] using hw
    | [] | [_] => simp at hw
    | _ :: _ :: _ :: _ => simp [fieldsHold] at hf
  · simp at hw

/-! Table values. -/

/-- The table value that opens a row's bits is read back from its own (R108, R117, R132). -/
theorem readValue_valueBits {i : Instr} (rest : List Bool) (hw : Writable c i) (hp : i.format ≠ .props) (hb : i.format ≠ .blockFlags) :
    readValue c (valueBits c i.symbol ++ rest) = .ok (i.symbol, (valueBits c i.symbol).length) := by
  have hraw := symbol_lt_valueCount c.params (i := i)
  have hsym := hw.symbol
  rw [← hw.format] at hp hb hsym hraw
  unfold readValue valueBits
  cases hf : c.fmt with rw [hf] at hsym hraw
  | props => exact absurd hf hp
  | blockFlags => exact absurd hf hb
  | levelNib | levelNib2 | vuSel =>
    simp only [toBits_length, bitsValue_toBits rest (hraw rfl nofun nofun)]
  | filterType =>
    have hrow : i.symbol < 8 := hraw rfl nofun nofun
    have hcode : Operands.rowCode c.params i.symbol < 2 ^ 3 := (Machine.typeCodes_lt hw.params hrow).1
    simp only [toBits_length, bitsValue_toBits rest hcode, (Machine.typeCodes_inverse hw.params hrow).1]
  | levelSym | mainSym | lenSlot | distSlot => exact readSymbol_codeBits (hsym rfl) rest

/-- The bits read as a table value are those written for it. -/
theorem valueBits_of_readValue (hr : Readable c) {bits : List Bool} {v n : Nat} (h : readValue c bits = .ok (v, n))
    (hn : n ≤ bits.length) : valueBits c v = bits.take n := by
  have hsym := hr.symbol
  unfold readValue at h
  unfold valueBits
  cases hf : c.fmt with rw [hf] at h hsym
  | props | blockFlags => cases h
  | levelNib | levelNib2 | vuSel =>
    cases h
    exact toBits_bitsValue hn
  | filterType =>
    cases h
    have hcode : bitsValue 3 bits < 8 := bitsValue_lt 3 bits
    simp only [(Machine.typeCodes_inverse hr.params hcode).2, toBits_bitsValue hn]
  | levelSym | mainSym | lenSlot | distSlot =>
    obtain ⟨m, hm⟩ := hsym rfl
    exact codeBits_of_readSymbol hm h hn

end

end Sys2Proof
end

section
/-! PROOFS. The property bytes and the header, and whole instructions: what the encoder writes the decoder reads back, and what the
decoder reads the encoder writes again (30_encoding.md). -/

namespace Sys2Proof

open Operands (Field)

section
variable {c : DecodeCtx}

/-! The property bytes and the header. -/

/-- The bits of the property register (R40, R101). -/
theorem propsWord_getLsbD (r0 : BitVec 3) (pow frac : BitVec 5) (r1 v7 solid : Bool) (i : Nat) :
    (Operands.propsWord r0 pow frac r1 v7 solid).getLsbD i =
      if i = 0 then solid else if i = 1 then v7 else if i = 2 then r1
      else if i < 8 then frac.getLsbD (i - 3) else if i < 13 then pow.getLsbD (i - 8) else r0.getLsbD (i - 13) := by
  have happend : (Operands.propsWord r0 pow frac r1 v7 solid).getLsbD i =
      (r0 ++ pow ++ frac ++ BitVec.ofBool r1 ++ BitVec.ofBool v7 ++ BitVec.ofBool solid).getLsbD i := rfl
  simp only [happend, BitVec.getLsbD_append, BitVec.getLsbD_ofBool]
  grind

/-- The fields of the property register are those it is made of (R101). -/
theorem decodeProps_propsWord (r0 : BitVec 3) (pow frac : BitVec 5) (r1 v7 solid : Bool) :
    decodeProps (Operands.propsWord r0 pow frac r1 v7 solid) = .props r0 pow frac r1 v7 solid := by
  have field {n a : Nat} {f : BitVec n} (h : ∀ i < n, (Operands.propsWord r0 pow frac r1 v7 solid).getLsbD (a + i) = f.getLsbD i) :
      (Operands.propsWord r0 pow frac r1 v7 solid).extractLsb' a n = f := by
    refine BitVec.eq_of_getLsbD_eq fun i hi => ?_
    simp only [BitVec.getLsbD_extractLsb', h i hi, hi, decide_true, Bool.true_and]
  simp only [decodeProps, Instr.props.injEq]
  refine ⟨field fun i hi => ?_, field fun i hi => ?_, field fun i hi => ?_, ?_, ?_, ?_⟩ <;> rw [propsWord_getLsbD] <;> grind

/-- The property register is made of its fields (R101). -/
theorem propsWord_fields (w : BitVec 16) :
    Operands.propsWord (w.extractLsb' 13 3) (w.extractLsb' 8 5) (w.extractLsb' 3 5) (w.getLsbD 2) (w.getLsbD 1) (w.getLsbD 0) = w := by
  refine BitVec.eq_of_getLsbD_eq fun i hi => ?_
  simp only [propsWord_getLsbD, BitVec.getLsbD_extractLsb']
  grind

section
variable (b7m1 : BitVec 3) (num : BitVec 2) (r5 last tables : Bool)

/-! The fields of the flags byte are those it is made of (R103). -/

@[simp] theorem headerFlags_b7m1 : (Operands.headerFlags b7m1 num r5 last tables).extractLsb' 0 3 = b7m1 := by
  decide +revert

@[simp] theorem headerFlags_num : Operands.headerNum (Operands.headerFlags b7m1 num r5 last tables) = num.toNat := by
  decide +revert

@[simp] theorem headerFlags_r5 : (Operands.headerFlags b7m1 num r5 last tables).getLsbD 5 = r5 := by
  decide +revert

@[simp] theorem headerFlags_last : (Operands.headerFlags b7m1 num r5 last tables).getLsbD 6 = last := by
  decide +revert

@[simp] theorem headerFlags_tables : (Operands.headerFlags b7m1 num r5 last tables).getLsbD 7 = tables := by
  decide +revert

end

/-- The flags byte is made of its fields (R103). -/
theorem headerFlags_fields : ∀ b : Byte,
    Operands.headerFlags (b.extractLsb' 0 3) (b.extractLsb' 3 2) (b.getLsbD 5) (b.getLsbD 6) (b.getLsbD 7) = b := by
  decide

/-- The flags byte is made of its `num` and its other fields (R103). -/
theorem headerFlags_of_headerNum {b : Byte} {num : BitVec 2} (h : Operands.headerNum b = num.toNat) :
    Operands.headerFlags (b.extractLsb' 0 3) num (b.getLsbD 5) (b.getLsbD 6) (b.getLsbD 7) = b := by
  obtain rfl : b.extractLsb' 3 2 = num := BitVec.eq_of_toNat_eq h
  exact headerFlags_fields b

/-- The bytes of a bit string are read back, each at its place. -/
theorem byteAt_flatMap {bs : List Byte} {j : Nat} {b : Byte} (rest : List Bool) (h : bs[j]? = some b) :
    byteAt (8 * j) (bs.flatMap byteBits ++ rest) = b := by
  induction bs generalizing j with
  | nil => simp at h
  | cons a bs ih =>
    rw [List.flatMap_cons, List.append_assoc, byteAt]
    cases j with
    | zero =>
      obtain rfl : a = b := by simpa using h
      rw [Nat.mul_zero, List.drop_zero, bitsValue_byteBits, BitVec.ofNat_toNat, BitVec.setWidth_eq]
    | succ j =>
      have hskip : 8 * (j + 1) = (byteBits a).length + 8 * j := by simp [byteBits]; omega
      rw [hskip, ← List.drop_drop, List.drop_left]
      exact ih (by simpa using h)

/-- The bytes read from a bit string that is long enough are its bits. -/
theorem flatMap_byteAt {m : Nat} {bits : List Bool} (h : 8 * m ≤ bits.length) :
    ((List.range m).map fun j => byteAt (8 * j) bits).flatMap byteBits = bits.take (8 * m) := by
  induction m with
  | zero => simp
  | succ m ih =>
    have hbyte : byteBits (byteAt (8 * m) bits) = (bits.drop (8 * m)).take 8 := by
      rw [byteBits, byteAt, BitVec.toNat_ofNat, Nat.mod_eq_of_lt (bitsValue_lt 8 _), toBits_bitsValue (by simp; omega)]
    rw [List.range_succ, List.map_append, List.flatMap_append, ih (by omega), Nat.mul_succ, List.take_add]
    simp [hbyte]

/-- A header is read back from its bits, whatever follows (R102, R103). -/
theorem decodeHeader_encode {i : Instr} (rest : List Bool) (hb : i.format = .blockFlags) :
    decodeHeader (encode c i ++ rest) = .ok i (encode c i).length := by
  have flagsAt (flags cx : Byte) (size : List Byte) : byteAt 0 (headerBits flags cx size ++ rest) = flags :=
    byteAt_flatMap (j := 0) rest rfl
  have checksumAt (flags cx : Byte) (size : List Byte) : byteAt 8 (headerBits flags cx size ++ rest) = cx :=
    byteAt_flatMap (j := 1) rest rfl
  have size0At (flags cx s0 : Byte) (size : List Byte) : byteAt 16 (headerBits flags cx (s0 :: size) ++ rest) = s0 :=
    byteAt_flatMap (j := 2) rest rfl
  have size1At (flags cx s0 s1 : Byte) (size : List Byte) : byteAt 24 (headerBits flags cx (s0 :: s1 :: size) ++ rest) = s1 :=
    byteAt_flatMap (j := 3) rest rfl
  have size2At (flags cx s0 s1 s2 : Byte) : byteAt 32 (headerBits flags cx [s0, s1, s2] ++ rest) = s2 :=
    byteAt_flatMap (j := 4) rest rfl
  cases i <;> cases hb
  all_goals
    simp only [decodeHeader, encode, flagsAt, checksumAt, size0At, size1At, size2At, headerFlags_b7m1, headerFlags_num,
      headerFlags_r5, headerFlags_last, headerFlags_tables]
    rfl

/-- The bits read as a header are those written for it (R102, R103). -/
theorem encode_of_decodeHeader {bits : List Bool} {i : Instr} {n : Nat} (h : decodeHeader bits = .ok i n) (hn : n ≤ bits.length) :
    encode c i = bits.take n := by
  simp only [decodeHeader] at h
  split at h <;> cases h
  case h_1 hnum =>
    rw [encode, headerFlags_of_headerNum (num := 0) hnum]
    exact flatMap_byteAt (m := 3) hn
  case h_2 hnum =>
    rw [encode, headerFlags_of_headerNum (num := 1) hnum]
    exact flatMap_byteAt (m := 4) hn
  case h_3 hnum =>
    rw [encode, headerFlags_of_headerNum (num := 2) hnum]
    exact flatMap_byteAt (m := 5) hn
  case h_4 h0 h1 h2 =>
    have hnum : Operands.headerNum (byteAt 0 bits) = 3 := by
      have hlt : Operands.headerNum (byteAt 0 bits) < 4 := ((byteAt 0 bits).extractLsb' 3 2).isLt
      simp only [imp_false] at h0 h1 h2
      omega
    rw [encode, headerFlags_of_headerNum (num := 3) hnum]
    exact flatMap_byteAt (m := 2) hn

/-! Instructions. -/

/-- A field of a row is decoded as its table value and what follows that (R132). -/
theorem decode_eq_decodeRow (hp : c.fmt ≠ .props) (hb : c.fmt ≠ .blockFlags) {bits : List Bool} {v n : Nat}
    (h : readValue c bits = .ok (v, n)) : decode c bits = decodeRow c v n (bits.drop n) := by
  unfold decode
  split
  · contradiction
  · contradiction
  · rw [h]

/-- A decoded row begins with a table value (R132). -/
theorem decode_row_ok (hp : c.fmt ≠ .props) (hb : c.fmt ≠ .blockFlags) {bits : List Bool} {i : Instr} {n : Nat}
    (h : decode c bits = .ok i n) :
    ∃ v m ops k, readValue c bits = .ok (v, m) ∧ readFields c (fieldsOf c.params c.fmt v) (bits.drop m) = .ok (ops, k) ∧
      ofRow c.fmt v ops = some i ∧ n = m + k := by
  cases hv : readValue c bits with
  | error r =>
    unfold decode at h
    split at h
    · contradiction
    · contradiction
    · rw [hv] at h
      cases h
  | ok r =>
    rw [decode_eq_decodeRow hp hb hv] at h
    obtain ⟨ops, k, hr, ho, hn⟩ := decodeRow_ok h
    exact ⟨r.1, r.2, ops, k, rfl, hr, ho, hn⟩

/-- A row is read back from its bits, whatever follows (R132). -/
theorem decode_encode_row {i : Instr} (rest : List Bool) (hw : Writable c i) (hwf : i.wellFormed c.params = true)
    (hp : i.format ≠ .props) (hb : i.format ≠ .blockFlags) : decode c (encode c i ++ rest) = .ok i (encode c i).length := by
  have hfields := readFields_fieldsBits rest hwf fun H v hH hv =>
    hw.align H v hH (low4_mem_fieldsOf (List.of_mem_zip hv).1 ▸ (List.of_mem_zip hv).1) (low4_last hwf hv)
  have hvalue := readValue_valueBits (fieldsBits c (fieldsOf c.params i.format i.symbol) i.operands ++ rest) hw hp hb
  rw [encode_row c hp hb, List.append_assoc, decode_eq_decodeRow (hw.format ▸ hp) (hw.format ▸ hb) hvalue, List.drop_left,
    List.length_append]
  simp only [decodeRow, hw.format, hfields, rowTrip i c.params hwf hp hb]

/-- The bits read as a row are those written for it (R132). -/
theorem encode_of_decode_row {bits : List Bool} {i : Instr} {n : Nat} (hr : Readable c) (hp : c.fmt ≠ .props)
    (hb : c.fmt ≠ .blockFlags) (h : decode c bits = .ok i n) (hn : n ≤ bits.length) : encode c i = bits.take n := by
  obtain ⟨v, m, ops, k, hv, hfields, hrow, rfl⟩ := decode_row_ok hp hb h
  obtain ⟨hf, hs, ho⟩ := ofRow_inv hrow
  rw [encode_row c (hf ▸ hp) (hf ▸ hb), hf, hs, ho c.params (readFields_hold hr.align hfields),
    valueBits_of_readValue hr hv (by omega), fieldsBits_of_readFields hr.align hfields (by simp; omega), List.take_add]

end

/-- Settles O9: the property bytes and a header by their fields, a row by its table value and then its fields. -/
theorem decodeOfEncodeIsIdentity : Obligations.DecodeOfEncodeIsIdentity := by
  intro c i rest hw hwf
  have hfmt := hw.format
  by_cases hp : i.format = .props
  · rw [hp] at hfmt
    cases i <;> cases hp
    next r0 pow frac r1 v7 solid =>
      have hword := bitsValue_toBits rest (Operands.propsWord r0 pow frac r1 v7 solid).isLt
      simp only [decode, hfmt, encode, toBits_length, hword, BitVec.ofNat_toNat, BitVec.setWidth_eq, decodeProps_propsWord]
  · by_cases hb : i.format = .blockFlags
    · rw [decode, hfmt, hb]
      exact decodeHeader_encode rest hb
    · exact decode_encode_row rest hw hwf hp hb

/-- Settles O10: what is decoded is well-formed in every format, and its bits are the property bytes', a header's or a row's. -/
theorem encodeOfDecodeIsPrefix : Obligations.EncodeOfDecodeIsPrefix := by
  intro c bits i n hr h hn
  refine ⟨decode_format h, decode_wellFormed hr.align h, ?_⟩
  by_cases hp : c.fmt = .props
  · simp only [decode, hp] at h
    cases h
    simp only [decodeProps, encode, propsWord_fields, BitVec.toNat_ofNat, Nat.mod_eq_of_lt (bitsValue_lt 16 bits)]
    exact toBits_bitsValue hn
  · by_cases hb : c.fmt = .blockFlags
    · simp only [decode, hb] at h
      exact encode_of_decodeHeader h hn
    · exact encode_of_decode_row hr hp hb h hn

end Sys2Proof
end

section
/-! PROOFS. Which fetches have a meaning (R132, R180): a decoder built for its alphabet (R45, R173) leaves a field undecoded only where
it has no symbol at all, and every value it reads has a row of the table. -/

namespace Sys2Proof

open Operands (Field)

/-! The table has a row for every value of a format and operand values that fit (R132). -/

/-- There are as many operand values as fields. -/
theorem fieldsHold_length {fs : List Field} {vs : List Nat} (h : fieldsHold fs vs = true) : vs.length = fs.length := by
  induction fs generalizing vs with
  | nil =>
    cases vs with
    | nil => rfl
    | cons v vs => simp [fieldsHold] at h
  | cons f fs ih =>
    cases vs with
    | nil => simp [fieldsHold] at h
    | cons v vs =>
      obtain ⟨-, hrest⟩ := Bool.and_eq_true_iff.1 h
      simp [ih hrest]

section
variable {v : Nat} {ops : List Nat}

theorem levelNibRow_total (hv : v < 16) : ∃ i, levelNibRow v [] = some i := by
  interval_cases v <;> exact ⟨_, rfl⟩

theorem levelNib2Row_total (hv : v < 16) : ∃ i, levelNib2Row v [] = some i := by
  interval_cases v <;> exact ⟨_, rfl⟩

theorem levelSymRow_total {P : Config.Params} (hv : v < 20) (hops : ops.length = (Operands.levelFields P v).length) :
    ∃ i, levelSymRow v ops = some i := by
  unfold Operands.levelFields at hops
  split at hops
  · obtain rfl := List.length_eq_zero_iff.1 hops
    interval_cases v <;> exact ⟨_, rfl⟩
  · obtain ⟨x, rfl⟩ := List.length_eq_one_iff.1 hops
    interval_cases v <;> exact ⟨_, rfl⟩

/-- A length slot has a field from slot 8 on (R111). -/
theorem lenFields_length : ∀ v < 44, (Operands.lenFields v).length = if v < 8 then 0 else 1 := by
  decide

theorem lenSlotRow_total (hv : v < 44) (hops : ops.length = (Operands.lenFields v).length) : ∃ i, lenSlotRow v ops = some i := by
  rw [lenFields_length v hv] at hops
  split at hops
  · obtain rfl := List.length_eq_zero_iff.1 hops
    interval_cases v <;> exact ⟨_, rfl⟩
  · obtain ⟨x, rfl⟩ := List.length_eq_one_iff.1 hops
    interval_cases v <;> exact ⟨_, rfl⟩

/-- Only a MATCH has a field, and that from its slot 8 on (R110). -/
theorem mainFields_length (v : Nat) : (Operands.mainFields v).length = if 270 ≤ v ∧ v < 306 then 1 else 0 := by
  unfold Operands.mainFields
  split
  · rw [lenFields_length _ (by omega)]
    split_ifs
    all_goals omega
  · rw [if_neg (by omega)]
    rfl

theorem mainRow_total (hle : 256 ≤ v) (hlt : v < 312) (hops : ops.length = (Operands.mainFields v).length) :
    ∃ i, mainRow v ops = some i := by
  rw [mainFields_length] at hops
  rcases Nat.lt_or_ge v 270 with hbefore | hfrom
  · rw [if_neg (by omega)] at hops
    obtain rfl := List.length_eq_zero_iff.1 hops
    interval_cases v <;> exact ⟨_, rfl⟩
  · rcases Nat.lt_or_ge v 306 with hto | hbehind
    · rw [if_pos ⟨hfrom, hto⟩] at hops
      obtain ⟨x, rfl⟩ := List.length_eq_one_iff.1 hops
      interval_cases v <;> exact ⟨_, rfl⟩
    · rw [if_neg (by omega)] at hops
      obtain rfl := List.length_eq_zero_iff.1 hops
      interval_cases v <;> exact ⟨_, rfl⟩

/-- A distance slot has one field from slot 4 and two from slot 12 on, where it is no sentinel (R112, R235). -/
theorem distFields_length : ∀ v < 80,
    (Operands.distFields v).length = if v < 4 then 0 else if v < 12 then 1 else if v < 62 then 2 else 0 := by
  decide

theorem distSlotRow_total (hv : v < 80) (hops : ops.length = (Operands.distFields v).length) : ∃ i, distSlotRow v ops = some i := by
  rw [distFields_length v hv] at hops
  split_ifs at hops
  · obtain rfl := List.length_eq_zero_iff.1 hops
    interval_cases v <;> exact ⟨_, rfl⟩
  · obtain ⟨x, rfl⟩ := List.length_eq_one_iff.1 hops
    interval_cases v <;> exact ⟨_, rfl⟩
  · obtain ⟨x, y, rfl⟩ := List.length_eq_two.1 hops
    interval_cases v <;> exact ⟨_, rfl⟩
  · obtain rfl := List.length_eq_zero_iff.1 hops
    interval_cases v <;> exact ⟨_, rfl⟩

theorem vuRow_total (hv : v < 4) (hops : ops.length = v + 1) : ∃ i, vuRow v ops = some i := by
  interval_cases v
  · obtain ⟨x, rfl⟩ := List.length_eq_one_iff.1 hops
    exact ⟨_, rfl⟩
  · obtain ⟨x, y, rfl⟩ := List.length_eq_two.1 hops
    exact ⟨_, rfl⟩
  · obtain ⟨x, y, z, rfl⟩ := List.length_eq_three.1 hops
    exact ⟨_, rfl⟩
  · match ops, hops with
    | [x, y, z, w], _ => exact ⟨_, rfl⟩

theorem filterTypeRow_total (hv : v < 8) (hops : ops.length = (Operands.filterFields v).length) :
    ∃ i, filterTypeRow v ops = some i := by
  unfold Operands.filterFields at hops
  split at hops
  · rename_i hzero
    obtain ⟨x, rfl⟩ := List.length_eq_one_iff.1 hops
    subst hzero
    exact ⟨_, rfl⟩
  · have hpos : 1 ≤ v := by omega
    obtain rfl := List.length_eq_zero_iff.1 hops
    interval_cases v <;> exact ⟨_, rfl⟩

end

/-- The main alphabet is no larger than the main rows (R12, R228). -/
theorem mainSize_le {P : Config.Params} (h : P.wf = true) : P.mainSize ≤ 312 := by
  simp only [Config.Params.wf, Bool.and_eq_true, decide_eq_true_eq] at h
  obtain ⟨⟨⟨⟨⟨⟨⟨⟨hmain, -⟩, -⟩, -⟩, -⟩, -⟩, -⟩, -⟩, -⟩ := h
  exact hmain

/-- Every value of a format has a row with operand values that fit its fields (R132). -/
theorem ofRow_total {P : Config.Params} (hP : P.wf = true) {f : Format} {v : Nat} {ops : List Nat} (hv : v < valueCount P f)
    (hops : fieldsHold (fieldsOf P f v) ops = true) : ∃ i, ofRow f v ops = some i := by
  have hlen := fieldsHold_length hops
  cases f with
  | levelNib =>
    obtain rfl := List.length_eq_zero_iff.1 hlen
    exact levelNibRow_total hv
  | levelNib2 =>
    obtain rfl := List.length_eq_zero_iff.1 hlen
    exact levelNib2Row_total hv
  | levelSym => exact levelSymRow_total hv hlen
  | mainSym =>
    have hmain : v < 312 := Nat.lt_of_lt_of_le hv (mainSize_le hP)
    rw [ofRow]
    split
    · rename_i hlit
      have hnone : ops = [] := by
        rw [fieldsOf, mainFields_length, if_neg (by omega)] at hlen
        exact List.length_eq_zero_iff.1 hlen
      exact ⟨_, if_pos hnone⟩
    · exact mainRow_total (by omega) hmain hlen
  | lenSlot => exact lenSlotRow_total hv hlen
  | distSlot => exact distSlotRow_total hv hlen
  | vuSel =>
    rw [fieldsOf, Operands.vuFields, List.length_replicate] at hlen
    exact vuRow_total hv hlen
  | filterType => exact filterTypeRow_total hv hlen
  | props | blockFlags => exact absurd hv (Nat.not_lt_zero v)

/-! The decoder. -/

/-- The context of a machine whose decoders are built for their alphabets (R45, R170). -/
structure DecodersBuilt (c : DecodeCtx) : Prop where
  params : c.params.wf = true
  symbol : c.fmt.isSymbol = true → c.sym.builtFor (alphabetSize c.params c.fmt)
  align : ∀ H, c.align = some H → H.builtFor Config.alignSize

section
variable {c : DecodeCtx} {bits : List Bool}

/-- A table value read is one of its format's, and only a decoder without symbols gives none (R132, R180). -/
theorem readValue_total (hc : DecodersBuilt c) (hp : c.fmt ≠ .props) (hb : c.fmt ≠ .blockFlags) (bits : List Bool) :
    (∃ v n, readValue c bits = .ok (v, n) ∧ v < valueCount c.params c.fmt) ∨ readValue c bits = .error .emptyDecoder := by
  have hsym := hc.symbol
  unfold readValue
  cases hf : c.fmt with rw [hf] at hsym
  | props => exact absurd hf hp
  | blockFlags => exact absurd hf hb
  | levelNib | levelNib2 | vuSel => exact .inl ⟨_, _, rfl, bitsValue_lt _ bits⟩
  | filterType => exact .inl ⟨_, _, rfl, (Machine.typeCodes_lt hc.params (bitsValue_lt 3 bits)).2⟩
  | levelSym | mainSym | lenSlot | distSlot => exact readSymbol_total (hsym rfl) bits

/-- Only an align decoder without symbols gives no field (R112, R180). -/
theorem readField_error (hc : DecodersBuilt c) {f : Field} {r : Reject} (h : readField c f bits = .error r) : r = .emptyDecoder := by
  cases f with
  | raw n => cases h
  | low4 =>
    simp only [readField] at h
    split at h
    · cases h
    · rename_i H hH
      rcases readSymbol_total (hc.align H hH) bits with ⟨s, k, hread, -⟩ | hread
      · rw [hread] at h
        cases h
      · rw [hread] at h
        cases h
        rfl

theorem readFields_error (hc : DecodersBuilt c) {fs : List Field} {r : Reject} {n : Nat} (h : readFields c fs bits = .error (r, n)) :
    r = .emptyDecoder := by
  induction fs generalizing bits n with
  | nil => cases h
  | cons f fs ih =>
    simp only [readFields] at h
    split at h
    · rename_i hfield
      cases h
      exact readField_error hc hfield
    · split at h <;> cases h
      rename_i hfields
      exact ih hfields

/-- Only a decoder without symbols rejects a stream (R132, R180). -/
theorem decode_rejected (hc : DecodersBuilt c) {r : Reject} {n : Nat} (h : decode c bits = .rejected r n) : r = .emptyDecoder := by
  by_cases hp : c.fmt = .props
  · simp only [decode, hp] at h
    cases h
  · by_cases hb : c.fmt = .blockFlags
    · simp only [decode, hb, decodeHeader] at h
      split at h <;> cases h
    · rcases readValue_total hc hp hb bits with ⟨v, m, hread, hv⟩ | hread
      · rw [decode_eq_decodeRow hp hb hread, decodeRow] at h
        split at h
        · rename_i hfields
          cases h
          exact readFields_error hc hfields
        · rename_i ops k hfields
          obtain ⟨i, hi⟩ := ofRow_total hc.params hv (readFields_hold hc.align hfields)
          rw [hi] at h
          cases h
      · unfold decode at h
        split at h
        · contradiction
        · contradiction
        · rw [hread] at h
          cases h
          rfl

end

end Sys2Proof

namespace Sys2Proof.Machine

/-! Outcomes. -/

/-- An outcome that is no refusal. -/
def meaningful (o : Host.Outcome State Fault Refusal) : Prop := ∀ r, o ≠ .refused r

theorem meaningful_next (s : State) : meaningful (.next s) := fun _ => nofun

theorem takeError_meaningful (k : ErrorKind) (s : State) : meaningful (takeError k s) := by
  intro r h
  rcases takeError_cases k s with ⟨t, ht, -⟩ | ⟨f, hf, -⟩
  · rw [ht] at h
    cases h
  · rw [hf] at h
    cases h

theorem Flow.outcome_meaningful (x : Flow State) : meaningful x.outcome := by
  cases x with
  | ok s => exact meaningful_next s
  | raised k s => exact takeError_meaningful k s
  | fault r => exact fun _ => nofun

section
variable {s u : State}

/-! The instructions. -/

theorem readHeader_meaningful (flags : Byte) (b7m1 : BitVec 3) (last tables : Bool) (cx : Byte) (size : List Byte) (s : State) :
    meaningful (readHeader flags b7m1 last tables cx size s) := by
  simp only [readHeader]
  split_ifs
  · exact takeError_meaningful _ _
  · exact meaningful_next _
  · exact meaningful_next _
  · exact takeError_meaningful _ _

theorem repeatLength_meaningful (sym e : Nat) (s : State) : meaningful (repeatLength sym e s) := by
  unfold repeatLength
  split
  · exact takeError_meaningful _ _
  · exact meaningful_next _

theorem execLastlen_meaningful (s : State) : meaningful (execLastlen s) := by
  unfold execLastlen
  split
  · exact meaningful_next _
  · exact Flow.outcome_meaningful _

/-- Every instruction but PROPS has a meaning in every state. -/
theorem exec_meaningful {i : Instr} (h : i.format ≠ .props) (s : State) : meaningful (exec i s) := by
  cases hf : i.format with
  | props => exact absurd hf h
  | blockFlags =>
    rcases exec_blockFlags hf s with ⟨flags, b7m1, last, tables, cx, size, he⟩ | he <;> rw [he]
    · exact readHeader_meaningful flags b7m1 last tables cx size s
    · exact takeError_meaningful _ s
  | levelNib => rcases exec_levelNib hf s with ⟨n, he⟩ | he <;> rw [he] <;> exact meaningful_next _
  | levelNib2 =>
    obtain ⟨c, n, he⟩ := exec_levelNib2 hf s
    exact he ▸ meaningful_next _
  | levelSym =>
    rcases exec_levelSym hf s with ⟨c, v, he⟩ | ⟨sym, e, he⟩ <;> rw [he]
    · exact meaningful_next _
    · exact repeatLength_meaningful sym e s
  | mainSym =>
    rcases exec_mainSym hf s with ⟨b, he⟩ | he | he | ⟨k, he⟩ | ⟨slot, he, -⟩ | he <;> rw [he]
    · exact Flow.outcome_meaningful _
    · exact Flow.outcome_meaningful _
    · exact execLastlen_meaningful s
    · exact meaningful_next _
    · exact meaningful_next _
    · exact takeError_meaningful _ s
  | lenSlot => exact (exec_lenSlot hf s).2 ▸ Flow.outcome_meaningful _
  | distSlot => exact (exec_distSlot hf s).2 ▸ Flow.outcome_meaningful _
  | vuSel =>
    obtain ⟨bs, he⟩ := exec_vuSel hf s
    exact he ▸ meaningful_next _
  | filterType =>
    obtain ⟨row, channels, -, he⟩ := exec_filterType hf s
    exact he ▸ meaningful_next _

/-- PROPS is refused for a window size change alone (R293). -/
theorem execProps_refused {r0 : BitVec 3} {pow frac : BitVec 5} {r1 v7 solid : Bool} {r : Refusal}
    (h : execProps r0 pow frac r1 v7 solid s = .refused r) : r = .windowSizeChange := by
  simp only [execProps] at h
  split_ifs at h
  cases h
  rfl

/-! Before the fetch. -/

/-- What stands before the next instruction has a meaning. -/
def Before.meaningful (b : Before) : Prop :=
  match b with
  | .act o => Machine.meaningful o
  | .go _ => True

theorem prepared_meaningful {k : State → Before} (hk : ∀ u, (k u).meaningful) : (prepared s k).meaningful := by
  rcases prepared_cases s k with ⟨u, -, he⟩ | he <;> rw [he]
  · exact hk u
  · exact takeError_meaningful .io s

theorem beforeCall_meaningful (s : State) : (beforeCall s).meaningful := by
  unfold beforeCall
  split
  · exact meaningful_next _
  · exact meaningful_next _
  · trivial

theorem beforeSymbol_meaningful (s : State) : (beforeSymbol s).meaningful := by
  unfold beforeSymbol
  split
  · exact Flow.outcome_meaningful _
  · refine prepared_meaningful fun u => ?_
    split
    · exact Flow.outcome_meaningful _
    · split
      · exact Flow.outcome_meaningful _
      · trivial

theorem beforeNibble_meaningful (s : State) : (beforeNibble s).meaningful := by
  unfold beforeNibble
  split
  · exact Flow.outcome_meaningful _
  · exact prepared_meaningful fun _ => trivial

theorem beforeLevelSymbol_meaningful (s : State) : (beforeLevelSymbol s).meaningful := by
  unfold beforeLevelSymbol
  split
  · exact Flow.outcome_meaningful _
  · refine prepared_meaningful fun u => ?_
    split
    · exact takeError_meaningful _ u
    · trivial

theorem before_meaningful (s : State) : (before s).meaningful := by
  unfold before
  cases s.phase with
  | idle => exact beforeCall_meaningful s
  | symbols => exact beforeSymbol_meaningful s
  | levelNib => exact beforeNibble_meaningful s
  | levelSym => exact beforeLevelSymbol_meaningful s
  | header | levelNib2 | vuDelta => exact prepared_meaningful fun _ => trivial
  | lenSlot | distSlot | vuSize | filterType => trivial

/-! The fetch. -/

/-- The decoders of a running machine are built for the alphabet that comes next (R45, R125). -/
theorem decodersOk.decodersBuilt (h : decodersOk s) (hr : s.running) : DecodersBuilt s.decodeCtx := by
  obtain ⟨hmain, hdist, halign, hlen⟩ := h.tables (.inl hr)
  refine ⟨h.params, fun hsym => ?_, fun H hH => ?_⟩
  · simp only [State.decodeCtx] at hsym ⊢
    cases hp : s.phase with rw [hp] at hsym
    | symbols => exact hmain
    | levelSym => exact (h.level hp).1
    | lenSlot => exact hlen
    | distSlot => exact hdist
    | _ => cases hsym
  · simp only [State.decodeCtx] at hH
    split at hH <;> cases hH
    exact halign

/-- What a running machine does with the bits at its reader has a meaning. -/
theorem fetched_meaningful (h : decodersOk s) (hb : before s = .go u) (hr : s.running) (hu : advanced s u) : meaningful (step s) := by
  have hdecode : fetch u = decode s.decodeCtx u.fetchBits := by rw [fetch, hu.decodeCtx]
  cases hi : fetch u with
  | ok i n =>
    rw [step_fetched hb hi]
    rw [hdecode] at hi
    refine exec_meaningful ?_ _
    rw [decode_format hi]
    simp only [State.decodeCtx]
    cases hp : s.phase with
    | idle => exact absurd hp hr
    | _ => nofun
  | rejected r n =>
    rw [step_rejected hb hi]
    rw [hdecode] at hi
    obtain rfl := decode_rejected (h.decodersBuilt hr) hi
    exact takeError_meaningful _ _

end

/-- Settles O59: no action of the machine and no instruction but PROPS is refused, and a decoder that is full or empty rejects a stream
only where it is empty, which is an error and no refusal. -/
theorem onlyWindowSizeChangeIsRefused : Obligations.OnlyWindowSizeChangeIsRefused := by
  intro s r h hrefused
  have hact := before_meaningful s
  have hstands := before_stands s
  generalize hb : before s = b at hact hstands
  cases hstands with
  | acts _ =>
    rw [step_act hb] at hrefused
    exact absurd hrefused (hact r)
  | @calls u args rest idle call =>
    have hphase : u.phase = .idle := by rw [call]; exact idle
    obtain ⟨i, hi, hprops⟩ := fetch_idle hphase
    obtain ⟨r0, pow, frac, r1, v7, solid, he⟩ := exec_props hprops (u.passed 16)
    rw [step_fetched hb hi, he] at hrefused
    exact execProps_refused hrefused
  | fetches running reader _ => exact absurd hrefused (fetched_meaningful h hb running reader r)

end Sys2Proof.Machine
end

section
/-! PROOFS. The spec's own words (R101 to R116), the integers of a filter descriptor (R116, R261) and the distance of a MATCH (R112, R113,
R226, R233 to R238). -/

namespace Sys2Proof

/-- Settles O8: every word is decoded by evaluation. -/
theorem specWordsDecode : Obligations.SpecWordsDecode := by
  unfold Obligations.SpecWordsDecode
  decide

end Sys2Proof

namespace Sys2Proof.Machine

/-- Little-endian bytes fit their number (R79). -/
theorem leValue_lt (bs : List Byte) : leValue bs < 2 ^ (8 * bs.length) := by
  induction bs with
  | nil => simp [leValue]
  | cons b bs ih =>
    have hb := b.isLt
    have hpow : 2 ^ (8 * (bs.length + 1)) = 256 * 2 ^ (8 * bs.length) := by rw [Nat.mul_succ, Nat.pow_add, Nat.mul_comm]
    rw [leValue, List.length_cons, hpow]
    omega

/-- An integer of at most four bytes fits its register and goes to `startPosDelta`, then to `size` (R116, R261, R263). -/
theorem storeVU_fields {bs : List Byte} (hlen : bs.length ≤ 4) (s : State) :
    (BitVec.ofNat 32 (leValue bs)).toNat = leValue bs ∧
    (s.phase = .vuDelta → storeVU bs s = { s with fltDelta := BitVec.ofNat 32 (leValue bs), phase := .vuSize }) ∧
    (s.phase = .vuSize → storeVU bs s = { s with fltSize := BitVec.ofNat 32 (leValue bs), phase := .filterType }) := by
  have hfit : leValue bs < 2 ^ 32 := (leValue_lt bs).trans_le (Nat.pow_le_pow_right (by omega) (by omega))
  refine ⟨Nat.mod_eq_of_lt hfit, fun hp => ?_, fun hp => ?_⟩
  · rw [storeVU, if_neg (by simp [hp])]
  · rw [storeVU, if_pos hp]

/-- Settles O41: each selector stores the little-endian value of its bytes. -/
theorem variableWidthIntegers : Obligations.VariableWidthIntegers := by
  intro i b0 b1 b2 b3 v s h
  obtain ⟨bs, hlen, hexec, rfl⟩ : ∃ bs : List Byte, bs.length ≤ 4 ∧ exec i s = .next (storeVU bs s) ∧ v = leValue bs := by
    rcases h with ⟨rfl, rfl⟩ | ⟨rfl, rfl⟩ | ⟨rfl, rfl⟩ | ⟨rfl, rfl⟩
    · exact ⟨[b0], by simp, rfl, by simp [leValue]⟩
    · exact ⟨[b0, b1], by simp, rfl, by simp [leValue]⟩
    · exact ⟨[b0, b1, b2], by simp, rfl, by simp [leValue]; ring⟩
    · exact ⟨[b0, b1, b2, b3], by simp, rfl, by simp [leValue]; ring⟩
  obtain ⟨hfit, hdelta, hsize⟩ := storeVU_fields hlen s
  exact ⟨hfit, fun hp => by rw [hexec, hdelta hp], fun hp => by rw [hexec, hsize hp]⟩

/-! The distance of a MATCH. -/

/-- The distance slots that are no sentinels: their width, the distance and the length addend of R12's defaults (R112, R233). -/
theorem distSlot_formulas : ∀ d < 62,
    Operands.distNumBits d < 30 ∧
    Operands.distBase d = (if d < 4 then d else (2 ||| (d &&& 1)) <<< ((d - 2) / 2)) ∧
    Operands.lenPlus Config.params d =
      (if 7 ≤ (d - 2) / 2 then 1 else 0) + (if 12 ≤ (d - 2) / 2 then 1 else 0) + (if 17 ≤ (d - 2) / 2 then 1 else 0) := by
  decide

/-- The distance of a slot that is no sentinel (R112, R113, R236). -/
theorem slotToDist_eq {d : Nat} {ops : List Nat} (hd : d < 62) (hops : fieldsHold (Operands.distFields d) ops = true) :
    Operands.slotToDist d (distLow ops) = if d < 4 then d + 1 else ((2 ||| (d &&& 1)) <<< ((d - 2) / 2)) + distLow ops + 1 := by
  obtain ⟨hwidth, hbase, -⟩ := distSlot_formulas d hd
  rw [Operands.slotToDist, if_neg (by omega), hbase]
  split
  · rename_i hsmall
    have hlen := fieldsHold_length hops
    rw [distFields_length d (by omega), if_pos hsmall] at hlen
    rw [List.length_eq_zero_iff.1 hlen, distLow]
  · rfl

/-- A match that is ready passes the checks, and its bytes are copied (R237, R238). -/
theorem State.matchReady.copyMatch {dist len : Nat} {s : State} (h : s.matchReady dist len) :
    ∃ t, copyMatch dist len s = .ok t ∧ t = { s with window := t.window, windowPos := s.windowPos + len } ∧ copied dist len s t := by
  have hgood : s.badDistance dist = false := by
    have hdict := h.inDictionary
    have hstart := h.afterStart
    simpa [State.badDistance] using ⟨hdict, hstart⟩
  obtain ⟨t, ht, hframe, hcopied⟩ :=
    copyBytes_total h.positive (h.inDictionary.trans h.dictionary) h.afterStart h.source h.room
  exact ⟨t, by rw [Machine.copyMatch, hgood]; exact ht, hframe, hcopied⟩

/-- A distance that ends a MATCH writes the registers, and the match that is ready is copied (R226, R237, R244, R245). -/
theorem State.matchReady.matchDist {dist len slot low : Nat} {s : State} (h : s.matchReady dist len)
    (hdist : Operands.slotToDist slot low = dist) (hlen : s.pendLen + Operands.lenPlus s.params slot = len) :
    ∃ t, matchDist slot low s = .next t ∧
      t = { s with
        window := t.window
        windowPos := s.windowPos + len
        repDist := s.repDist.shiftIn (BitVec.ofNat 32 dist)
        lastLength := len
        phase := .symbols } ∧
      copied dist len s t := by
  have hregisters : (matchRegisters dist len s).matchReady dist len :=
    ⟨h.positive, h.inDictionary, h.dictionary, h.afterStart, ⟨h.source.belowCursor, h.source.wholeLap⟩, h.room⟩
  obtain ⟨t, ht, hframe, hframed, hbytes⟩ := hregisters.copyMatch
  refine ⟨t, ?_, hframe, hframed, hbytes⟩
  rw [Machine.matchDist, hdist, hlen, ht]
  rfl

/-- Settles O36: the operands assemble to the distance of the slot, which is written to the registers and copied from. -/
theorem distanceSlotsCopyMatch : Obligations.DistanceSlotsCopyMatch := by
  intro i dist len s hf hsym hwf d nb low hdist hparams hlen hready
  have hfields : fieldsHold (Operands.distFields i.symbol) i.operands = true := by
    rwa [Instr.wellFormed, hf] at hwf
  have hlow : low = distLow i.operands := by
    have hfew : i.operands.length ≤ 2 := by
      rw [fieldsHold_length hfields, distFields_length i.symbol (by omega)]
      split_ifs <;> omega
    unfold low
    generalize i.operands = ops at hfew
    match ops, hfew with
    | [], _ => rfl
    | [x], _ => rfl
    | [high, lo4], _ =>
      change 16 * high + lo4 = high <<< 4 + lo4
      rw [Nat.shiftLeft_eq, Nat.mul_comm]
  have hslot : Operands.slotToDist i.symbol (distLow i.operands) = dist := by
    rw [slotToDist_eq hsym hfields, hdist, hlow]
  obtain ⟨-, -, hplus⟩ := distSlot_formulas i.symbol hsym
  have hlength : s.pendLen + Operands.lenPlus s.params i.symbol = len := by rw [hparams, hplus, hlen]
  have hrange : dist < 2 ^ 32 := hslot ▸ (slotToDist_range (by omega) hfields).2
  obtain ⟨t, ht, hframe, hcopied⟩ := hready.matchDist hslot hlength
  exact ⟨t, (exec_distSlot hf s).2.trans ht, hframe, hcopied, Nat.mod_eq_of_lt hrange⟩

end Sys2Proof.Machine
end

section
/-! PROOFS. The bit reader (40_bitreader.md R143 to R150): the stream's bits read through the bytes that hold them. -/

namespace Sys2Proof

/-- The bits of a value, each by its number: the first is the highest. -/
theorem toBits_eq_map_testBit (n v : Nat) : toBits n v = (List.range n).map fun j => v.testBit (n - 1 - j) := by
  induction n with
  | zero => rfl
  | succ n ih =>
    rw [toBits, ih, List.range_succ_eq_map, List.map_cons, List.map_map]
    refine congrArg₂ List.cons rfl (List.map_congr_left fun j _ => ?_)
    rw [Function.comp_apply, show n + 1 - 1 - j.succ = n - 1 - j by omega]

end Sys2Proof

namespace Sys2Proof.Machine

/-! The position (R31). -/

theorem byteOff_eq_div (s : State) : s.byteOff = s.pc / 8 := Nat.shiftRight_eq_div_pow ..

theorem bitPos_eq_mod (s : State) : s.bitPos = s.pc % 8 := Nat.and_two_pow_sub_one_eq_mod s.pc 3

theorem bitPos_lt (s : State) : s.bitPos < 8 := bitPos_eq_mod s ▸ Nat.mod_lt _ (by decide)

theorem pc_eq_byteOff_add_bitPos (s : State) : s.pc = 8 * s.byteOff + s.bitPos := by rw [byteOff_eq_div, bitPos_eq_mod]; omega

/-- The `k`-th stream bit from the start of a byte on (R143). -/
theorem bitAt_fromByte (s : State) (b k : Nat) : s.bitAt (8 * b + k) = (s.srcByte (b + k / 8)).getLsbD (7 - k % 8) := by
  have hand : (8 * b + k) &&& 7 = k % 8 := (Nat.and_two_pow_sub_one_eq_mod _ 3).trans (by omega)
  rw [State.bitAt, Nat.shiftRight_eq_div_pow, hand, show (8 * b + k) / 2 ^ 3 = b + k / 8 by omega]

/-! The snapshot (R146). -/

/-- The snapshot is its four bytes in a row. -/
theorem snapshot_eq_append (s : State) : snapshot s =
    (s.srcByte s.byteOff ++ s.srcByte (s.byteOff + 1) ++ s.srcByte (s.byteOff + 2) ++ s.srcByte (s.byteOff + 3)).toNat := by
  simp only [snapshot, BitVec.toNat_append, Nat.shiftLeft_or_distrib, ← Nat.shiftLeft_add]

/-- The bits of the snapshot are the 32 stream bits from the byte that holds `pc` on, the first one highest. -/
theorem snapshot_testBit (s : State) {k : Nat} (hk : k < 32) : (snapshot s).testBit (31 - k) = s.bitAt (8 * s.byteOff + k) := by
  rw [bitAt_fromByte, snapshot_eq_append, BitVec.testBit_toNat]
  simp only [BitVec.getLsbD_append]
  have hbyte : k / 8 = 0 ∨ k / 8 = 1 ∨ k / 8 = 2 ∨ k / 8 = 3 := by omega
  rcases hbyte with h | h | h | h <;> rw [h]
  · rw [if_neg (by omega), if_neg (by omega), if_neg (by omega), show 31 - k - 8 - 8 - 8 = 7 - k % 8 by omega, Nat.add_zero]
  · rw [if_neg (by omega), if_neg (by omega), if_pos (by omega), show 31 - k - 8 - 8 = 7 - k % 8 by omega]
  · rw [if_neg (by omega), if_pos (by omega), show 31 - k - 8 = 7 - k % 8 by omega]
  · rw [if_pos (by omega), show 31 - k = 7 - k % 8 by omega]

/-- The value that R146 takes from the snapshot, written as bits, is the next stream bits: with `n ≤ 25` they all lie inside it. -/
theorem toBits_readBitsBig (s : State) {n : Nat} (hn : n ≤ 25) : toBits n (readBitsBig s n).1 = s.streamBits n := by
  rw [toBits_eq_map_testBit, State.streamBits]
  refine List.map_congr_left fun j hj => ?_
  have hj : j < n := List.mem_range.1 hj
  have hpos := bitPos_lt s
  have hplace : 32 - s.bitPos - n + (n - 1 - j) = 31 - (s.bitPos + j) := by omega
  rw [readBitsBig, Nat.and_two_pow_sub_one_eq_mod, Nat.testBit_mod_two_pow, decide_eq_true (by omega), Bool.true_and,
    Nat.testBit_shiftRight, hplace, snapshot_testBit s (by omega), ← Nat.add_assoc, ← pc_eq_byteOff_add_bitPos]

/-- Settles O15: the value of the snapshot fits its `n` bits, so it is the value of the bits it is written as. -/
theorem readBitsBigIsReadBits : Obligations.ReadBitsBigIsReadBits := by
  intro s n hn
  have hfits : (readBitsBig s n).1 < 2 ^ n := by
    rw [readBitsBig, Nat.and_two_pow_sub_one_eq_mod]
    exact Nat.mod_lt _ (Nat.two_pow_pos n)
  have hvalue : bitsValue n (s.streamBits n) = (readBitsBig s n).1 := by
    rw [← toBits_readBitsBig s hn, ← List.append_nil (toBits n _), bitsValue_toBits [] hfits]
  rw [readBits, hvalue]
  rfl

/-! Aligning (R150). -/

/-- A bit of the shifted byte that `padNonZero` tests is a stream bit between `pc` and the byte's end, or an empty place below them. -/
theorem shiftedByte_testBit (s : State) (i : Nat) : ((s.srcByte s.byteOff).toNat <<< s.bitPos &&& 0xFF).testBit i =
    (decide (i < 8 ∧ s.bitPos ≤ i) && s.bitAt (s.pc + (7 - i))) := by
  rw [show 0xFF = 2 ^ 8 - 1 from rfl, Nat.and_two_pow_sub_one_eq_mod, Nat.testBit_mod_two_pow, Nat.testBit_shiftLeft,
    BitVec.testBit_toNat, ← Bool.and_assoc, ← Bool.decide_and]
  by_cases hi : i < 8 ∧ s.bitPos ≤ i
  · rw [pc_eq_byteOff_add_bitPos, Nat.add_assoc, bitAt_fromByte, show (s.bitPos + (7 - i)) / 8 = 0 by omega,
      show 7 - (s.bitPos + (7 - i)) % 8 = i - s.bitPos by omega, Nat.add_zero]
  · rw [decide_eq_false hi, Bool.false_and, Bool.false_and]

/-- The shifted byte is not zero exactly if one of the bits from `pc` to the byte's end is 1. -/
theorem padNonZero_iff (s : State) : s.padNonZero = true ↔ ∃ j, j < 8 - s.bitPos ∧ s.bitAt (s.pc + j) = true := by
  rw [State.padNonZero, decide_eq_true_iff]
  constructor
  · intro hne
    obtain ⟨i, hi⟩ := Nat.exists_testBit_of_ne_zero hne
    rw [shiftedByte_testBit, Bool.and_eq_true, decide_eq_true_iff] at hi
    obtain ⟨hplace, hone⟩ := hi
    exact ⟨7 - i, by omega, hone⟩
  · rintro ⟨j, hj, hone⟩ hzero
    have hbit := shiftedByte_testBit s (7 - j)
    rw [hzero, Nat.zero_testBit, show 7 - (7 - j) = j by omega, hone, Bool.and_true, eq_comm, decide_eq_false_iff_not] at hbit
    exact hbit (by omega)

/-- Settles O16: on a boundary no bit is left, elsewhere the shifted byte holds the discarded bits. -/
theorem alignToByteDiscardsAndRecords : Obligations.AlignToByteDiscardsAndRecords := by
  intro s
  rw [← bitPos_eq_mod, ← byteOff_eq_div]
  refine ⟨fun hboundary => if_pos hboundary, fun hinside => ?_⟩
  have hpad : s.padNonZero = decide (∃ j, j < 8 - s.bitPos ∧ s.bitAt (s.pc + j) = true) :=
    Bool.eq_iff_iff.2 ((padNonZero_iff s).trans decide_eq_true_iff.symm)
  rw [alignToByte, if_neg hinside, hpad]

end Sys2Proof.Machine
end

section
/-! PROOFS. The canonical Huffman unit (41_huffman.md): which tables `build` accepts, the order of the code words, and the two ways of
decoding. -/

namespace Sys2Proof

section
variable {lens : List Nat} {v : Nat}

/-! Sums over the symbols (R173, R174). -/

/-- The Kraft sum, taken symbol by symbol (R173). -/
theorem kraftSum_eq_sum (lens : List Nat) :
    kraftSum lens = ((List.range lens.length).map fun s => if lens.getD s 0 = 0 then 0 else 2 ^ (15 - lens.getD s 0)).sum := by
  induction lens with
  | nil => rfl
  | cons l ls ih =>
    rw [kraftSum, ih, List.length_cons, List.range_succ_eq_map, List.map_cons, List.map_map, List.sum_cons]
    rfl

/-- Only symbols with a length have a share of the code space (R173). -/
theorem kraftSum_eq_zero_iff : kraftSum lens = 0 ↔ ∀ l ∈ lens, l = 0 := by
  induction lens with
  | nil => simp [kraftSum]
  | cons l ls ih =>
    have hshare : (if l = 0 then 0 else 2 ^ (Config.maxCodeLen - l)) = 0 ↔ l = 0 := by simp
    rw [kraftSum, Nat.add_eq_zero_iff, hshare, ih, List.forall_mem_cons]

@[simp] theorem codeStart_nil (i : Nat) : codeStart [] i = 0 := by
  induction i with
  | zero => rfl
  | succ i ih => simp [codeStart, ih]

/-- The shares of the symbols before symbol `s` of length `i + 1`: those of the shorter lengths, and its own for each earlier symbol
of its length (R174). -/
theorem sum_shares_before (lens : List Nat) (s i : Nat) :
    ((List.range lens.length).map fun r =>
      if lens.getD r 0 ≠ 0 ∧ (lens.getD r 0 < i + 1 ∨ (lens.getD r 0 = i + 1 ∧ r < s)) then 2 ^ (15 - lens.getD r 0) else 0).sum =
    codeStart lens i + (lens.take s).count (i + 1) * 2 ^ (15 - (i + 1)) := by
  induction lens generalizing s with
  | nil => simp
  | cons l ls ih =>
    have hfirst : (if l ≠ 0 ∧ (l < i + 1 ∨ (l = i + 1 ∧ 0 < s)) then 2 ^ (15 - l) else 0) =
        (if l = 0 ∨ i < l then 0 else 2 ^ (15 - l)) + (if l = i + 1 ∧ 0 < s then 2 ^ (15 - (i + 1)) else 0) := by
      grind
    rw [List.length_cons, List.range_succ_eq_map, List.map_cons, List.map_map, List.sum_cons, codeStart_cons]
    simp only [Function.comp_def, List.getD_cons_zero, List.getD_cons_succ, hfirst]
    cases s with
    | zero => simpa [Nat.add_assoc, Config.maxCodeLen] using ih 0
    | succ s =>
      simp only [Nat.succ_eq_add_one, Nat.add_lt_add_iff_right]
      rw [ih s, List.take_succ_cons, List.count_cons]
      by_cases hl : l = i + 1
      · simp [hl, Nat.add_mul]
        omega
      · simp [hl, Nat.add_assoc, Config.maxCodeLen]

/-- The left-aligned code word starts behind the shorter lengths and the earlier symbols of its own (R174). -/
theorem codeNumber_leftAligned (lens : List Nat) (s i : Nat) :
    codeNumber lens s (i + 1) * 2 ^ (15 - (i + 1)) = codeStart lens i + (lens.take s).count (i + 1) * 2 ^ (15 - (i + 1)) := by
  have hwhole : 2 ^ (15 - (i + 1)) ∣ codeStart lens i :=
    (Nat.pow_dvd_pow 2 (Nat.sub_le_sub_left (Nat.le_succ i) 15)).trans (codeStart_dvd lens i)
  rw [codeNumber, Nat.add_sub_cancel, Nat.add_mul]
  exact congrArg (· + _) (Nat.div_mul_cancel hwhole)

theorem codeOf_ofLens {F s k : Nat} (hl : ∀ l ∈ lens, l ≤ 15) (hs : lens[s]? = some k) (hk : k ≠ 0) :
    (Huff.ofLens F lens).codeOf s = some (codeNumber lens s k, k) := by
  obtain ⟨i, rfl⟩ := Nat.exists_eq_add_one_of_ne_zero hk
  have hi : i < 15 := hl _ (List.mem_of_getElem? hs)
  have hlens : (Huff.ofLens F lens).lens = lens := rfl
  simp only [Huff.codeOf, hlens, hs, codeNumber, Nat.add_sub_cancel, ofLens_start_getD F lens hi.le, Nat.shiftRight_eq_div_pow]

/-! The fast table (R176, R179). -/

/-- Thresholds that the value has reached may be left out of the search (R179). -/
theorem findLen_drop {k n : Nat} {bs : List Nat} (h : ∀ b ∈ bs.take n, b ≤ v) : findLen v (k + n) (bs.drop n) = findLen v k bs := by
  induction n generalizing k bs with
  | zero => rfl
  | succ n ih =>
    cases bs with
    | nil => rfl
    | cons b bs =>
      obtain ⟨hb, hbs⟩ := List.forall_mem_cons.1 h
      rw [List.drop_succ_cons, findLen, if_neg (Nat.not_lt.2 hb), ← ih hbs, Nat.add_right_comm, Nat.add_assoc]

/-- From the threshold after length `F` upward, the search from `F + 1` is the whole search (R179). -/
theorem findLen_from_fast {F : Nat} (hF : F ≤ 15) (hv : codeStart lens F ≤ v) :
    findLen v (F + 1) ((Huff.ofLens F lens).start.drop (F + 1)) = findLen v 1 (Huff.ofLens F lens).start.tail := by
  rw [Nat.add_comm F 1, ← List.drop_drop, List.drop_one]
  refine findLen_drop fun b hb => ?_
  obtain ⟨j, hj⟩ := List.mem_iff_getElem?.1 hb
  rw [List.getElem?_take] at hj
  split at hj
  · rename_i hjF
    rw [List.getElem?_tail, ofLens_start_getElem? F lens (by omega)] at hj
    cases hj
    exact (codeStart_mono lens hjF).trans hv
  · cases hj

/-- The value that begins with the first `F` bits of `v` and goes on in zeros: an entry of the fast table is made from it (R176). -/
def leadingValue (F v : Nat) : Nat := (v >>> (Config.maxCodeLen - F)) <<< (Config.maxCodeLen - F)

/-- A code word of at most `F` bits is seen in the first `F` bits (R176). -/
theorem codeHolds_leading_iff {F s k : Nat} (hF : F ≤ 15) (hk : k ≤ F) :
    codeHolds lens s k (leadingValue F v) ↔ codeHolds lens s k v := by
  have hsplit : 2 ^ (Config.maxCodeLen - k) = 2 ^ (Config.maxCodeLen - F) * 2 ^ (F - k) := by
    rw [← Nat.pow_add]
    congr 1
    simp only [Config.maxCodeLen]
    omega
  have hleading : leadingValue F v / 2 ^ (Config.maxCodeLen - k) = v / 2 ^ (Config.maxCodeLen - k) := by
    rw [leadingValue, Nat.shiftLeft_eq, Nat.shiftRight_eq_div_pow, hsplit, ← Nat.div_div_eq_div_mul, ← Nat.div_div_eq_div_mul,
      Nat.mul_div_cancel _ (Nat.two_pow_pos _)]
  constructor
  · exact fun ⟨hpresent, hpos, hbegins⟩ => ⟨hpresent, hpos, hleading ▸ hbegins⟩
  · exact fun ⟨hpresent, hpos, hbegins⟩ => ⟨hpresent, hpos, hleading.trans hbegins⟩

/-- The entry of a value in the fast table is the answer of the search, where its length is at most `F` (R176). -/
theorem ofLens_fast_eq_some {F s k : Nat} (hF : F ≤ 15) (hl : ∀ l ∈ lens, l ≤ 15) (hv : v < 2 ^ 15) :
    (Huff.ofLens F lens).fast[v >>> (Config.maxCodeLen - F)]? = some (some (s, k)) ↔ codeHolds lens s k v ∧ k ≤ F := by
  have hindex : v >>> (Config.maxCodeLen - F) < 2 ^ F := by
    rw [Nat.shiftRight_eq_div_pow]
    refine Nat.div_lt_of_lt_mul ?_
    rwa [← Nat.pow_add, show Config.maxCodeLen - F + F = 15 from Nat.sub_add_cancel hF]
  have hentry : (Huff.ofLens F lens).fast[v >>> (Config.maxCodeLen - F)]? = some (some (s, k)) ↔
      lookup (Huff.ofLens F lens).start (Huff.ofLens F lens).off (Huff.ofLens F lens).syms (leadingValue F v) = some (s, k) ∧ k ≤ F := by
    simp only [Huff.ofLens, fastTable, leadingValue, List.getElem?_map, List.getElem?_range hindex, Option.map_some, Option.some.injEq]
    split
    · rename_i s' k' hr
      simp only [hr, Option.ite_none_right_eq_some, Option.some.injEq, Prod.mk.injEq]
      constructor
      · rintro ⟨hk, rfl, rfl⟩
        exact ⟨⟨rfl, rfl⟩, hk⟩
      · rintro ⟨⟨rfl, rfl⟩, hk⟩
        exact ⟨hk, rfl, rfl⟩
    · rename_i hr
      simp [hr]
  rw [hentry, lookup_ofLens_eq_some hl]
  exact and_congr_left fun hk => codeHolds_leading_iff hF hk

/-- A value below the threshold after length `F` begins with a code word of at most `F` bits (R179). -/
theorem exists_codeHolds_of_lt_codeStart {F : Nat} (hF : F ≤ 15) (hl : ∀ l ∈ lens, l ≤ 15) (hv : v < codeStart lens F) :
    ∃ s k, codeHolds lens s k v ∧ k ≤ F := by
  obtain ⟨⟨s, k⟩, hr⟩ := lookup_ofLens_isSome (F := F) (hv.trans_le (codeStart_mono lens hF))
  have hholds := (lookup_ofLens_eq_some hl).1 hr
  obtain ⟨i, rfl⟩ := Nat.exists_eq_add_one_of_ne_zero hholds.positive
  exact ⟨s, i + 1, hholds, (codeStart_mono lens).reflect_lt (hholds.range.1.trans_lt hv)⟩

end

/-- Settles O13: the code word is a number below `2 ^ k` written in `k` bits, and the search answers the symbol whose code word the
stream begins with. -/
theorem huffmanDecodeInvertsCode : Obligations.HuffmanDecodeInvertsCode := by
  intro F lens s k rest ha hs hk
  obtain ⟨hl, -⟩ := buildAccepts_bounds ha
  rw [codeBits_ofLens hl hs hk]
  exact ⟨toBits_length .., (decodeBits_ofLens_eq_ok hl).2 ⟨hs, hk, bitsValue_toBits rest (codeNumber_lt ha hs hk)⟩⟩

/-- Settles O11: the model's Kraft sum is the sum over the symbols, and it is 0 exactly if no symbol has a length. -/
theorem buildAcceptsByKraftSum : Obligations.BuildAcceptsByKraftSum := by
  intro F mode lens K
  have hK : kraftSum lens = K := kraftSum_eq_sum lens
  have hbuild : (Huff.build F mode lens).isSome = true ↔ buildAccepts mode lens = true := by
    unfold Huff.build
    split <;> simp [*]
  rw [hbuild]
  cases mode with
  | full | partialCode =>
    simp only [buildAccepts, Bool.and_eq_true, List.all_eq_true, decide_eq_true_iff, hK]
    exact Iff.rfl
  | fullOrEmpty =>
    simp only [buildAccepts, Bool.and_eq_true, Bool.or_eq_true, List.all_eq_true, decide_eq_true_iff, hK, ← kraftSum_eq_zero_iff]
    exact Iff.rfl

/-- Settles O12: both sides are where the symbol's length starts and a share for each earlier symbol of that length. -/
theorem canonicalCodeOrder : Obligations.CanonicalCodeOrder := by
  intro F lens s k ha hs hk
  refine ⟨codeNumber lens s k, codeOf_ofLens (buildAccepts_bounds ha).1 hs hk, codeNumber_lt ha hs hk, ?_⟩
  obtain ⟨i, rfl⟩ := Nat.exists_eq_add_one_of_ne_zero hk
  rw [codeNumber_leftAligned, sum_shares_before]

/-- Settles O14: an entry of the fast table is the search's answer, and a value without one has reached all thresholds up to `F + 1`. -/
theorem fastTableEquivalence : Obligations.FastTableEquivalence := by
  intro F lens v hF ha hv
  obtain ⟨hl, -⟩ := buildAccepts_bounds ha
  unfold Huff.decodeTwoLevel Huff.decodeValue
  split
  · rfl
  · split
    · rename_i r hfast
      rw [(lookup_ofLens_eq_some hl).2 ((ofLens_fast_eq_some hF hl hv).1 hfast).1]
    · rename_i hnone
      have hreached : codeStart lens F ≤ v := by
        by_contra hlt
        obtain ⟨s, k, hholds⟩ := exists_codeHolds_of_lt_codeStart hF hl (Nat.lt_of_not_le hlt)
        exact hnone (s, k) ((ofLens_fast_eq_some hF hl hv).2 hholds)
      rw [findLen_from_fast hF hreached, lookup]
      cases findLen v 1 (Huff.ofLens F lens).start.tail with
      | none => rfl
      | some k =>
        dsimp only
        split <;> simp [*]

end Sys2Proof
end

section
/-! PROOFS. The block header (42_block_tables.md R190 to R199): what the three sized rows read, and what becomes of a header whose
checksum is right or wrong. -/

namespace Sys2Proof.Machine

section
variable {s : State}

/-- An error taken where the flush finds its bytes leaves the state that R340 and R344 describe. -/
theorem State.flushable.takeError (h : s.flushable) (k : ErrorKind) : ∃ t, takeError k s = .next t ∧ failedWith k s t := by
  rcases takeError_cases k s with ht | ⟨r, -, hfault⟩
  · exact ht
  · obtain ⟨u, hu | ⟨j, hu⟩⟩ := flush_total h <;> rw [hfault] at hu <;> cases hu

/-- The flags byte as the sum of its fields' weights (R103). -/
theorem headerFlags_eq_ofNat (b7m1 : BitVec 3) (num : BitVec 2) (r5 last tables : Bool) :
    Operands.headerFlags b7m1 num r5 last tables =
      BitVec.ofNat 8 (128 * tables.toNat + 64 * last.toNat + 32 * r5.toNat + 8 * num.toNat + b7m1.toNat) := by
  decide +revert

/-- The header rows with `num` up to 2, each with its `num + 1` size bytes (R103, R104). -/
inductive SizedHeader (b7m1 : BitVec 3) (r5 last tables : Bool) (cx : Byte) : Nat → List Byte → Instr → Prop
  | one (s0 : Byte) : SizedHeader b7m1 r5 last tables cx 0 [s0] (.blkhdr0 b7m1 r5 last tables cx s0)
  | two (s0 s1 : Byte) : SizedHeader b7m1 r5 last tables cx 1 [s0, s1] (.blkhdr1 b7m1 r5 last tables cx s0 s1)
  | three (s0 s1 s2 : Byte) : SizedHeader b7m1 r5 last tables cx 2 [s0, s1, s2] (.blkhdr2 b7m1 r5 last tables cx s0 s1 s2)

/-- A sized header row reads its header (R191). -/
theorem exec_sizedHeader {i : Instr} {num : Nat} {b7m1 : BitVec 3} {r5 last tables : Bool} {cx : Byte} {size : List Byte}
    (h : SizedHeader b7m1 r5 last tables cx num size i) (s : State) :
    exec i s = readHeader (BitVec.ofNat 8 (128 * tables.toNat + 64 * last.toNat + 32 * r5.toNat + 8 * num + b7m1.toNat))
      b7m1 last tables cx size s := by
  cases h with
  | one s0 => exact congrArg (readHeader · b7m1 last tables cx [s0] s) (headerFlags_eq_ofNat b7m1 0 r5 last tables)
  | two s0 s1 => exact congrArg (readHeader · b7m1 last tables cx [s0, s1] s) (headerFlags_eq_ofNat b7m1 1 r5 last tables)
  | three s0 s1 s2 => exact congrArg (readHeader · b7m1 last tables cx [s0, s1, s2] s) (headerFlags_eq_ofNat b7m1 2 r5 last tables)

/-- The size and the exclusive or of a header's size bytes, row by row (R104). -/
theorem exists_sizedHeader {i : Instr} {num S : Nat} {b7m1 : BitVec 3} {r5 last tables : Bool} {cx s0 s1 s2 x : Byte}
    (h : (num = 0 ∧ i = .blkhdr0 b7m1 r5 last tables cx s0 ∧ S = s0.toNat ∧ x = s0) ∨
      (num = 1 ∧ i = .blkhdr1 b7m1 r5 last tables cx s0 s1 ∧ S = s0.toNat + 2 ^ 8 * s1.toNat ∧ x = s0 ^^^ s1) ∨
      (num = 2 ∧ i = .blkhdr2 b7m1 r5 last tables cx s0 s1 s2 ∧
        S = s0.toNat + 2 ^ 8 * s1.toNat + 2 ^ 16 * s2.toNat ∧ x = s0 ^^^ s1 ^^^ s2)) :
    ∃ size, leValue size = S ∧ xorBytes size = x ∧ SizedHeader b7m1 r5 last tables cx num size i := by
  rcases h with ⟨rfl, rfl, rfl, hx⟩ | ⟨rfl, rfl, rfl, hx⟩ | ⟨rfl, rfl, rfl, hx⟩
  · exact ⟨[s0], by simp [leValue], by simp [xorBytes, hx], .one s0⟩
  · exact ⟨[s0, s1], by simp [leValue], by simp [xorBytes, hx], .two s0 s1⟩
  · exact ⟨[s0, s1, s2], by simp only [leValue]; omega, by simp [xorBytes, hx, BitVec.xor_assoc], .three s0 s1 s2⟩

section
variable {flags cx : Byte} {b7m1 : BitVec 3} {last tables : Bool} {size : List Byte}

/-- A wrong checksum is found before anything is committed (R195). -/
theorem readHeader_badChecksum (h : flags ^^^ cx ^^^ xorBytes size ≠ 0x5A) :
    readHeader flags b7m1 last tables cx size s = takeError .corruptedData s := by
  rw [BitVec.xor_assoc] at h
  have hwrong : xorBytes (flags :: cx :: size) ≠ Config.blockChecksum := h
  exact if_pos hwrong

/-- With the right checksum the block's end is committed; then tables, symbols or the tables-absent error follow (R191, R198). -/
theorem readHeader_goodChecksum (h : flags ^^^ cx ^^^ xorBytes size = 0x5A) :
    readHeader flags b7m1 last tables cx size s =
      if tables then .next (beginTables (commitHeader flags b7m1 last (leValue size) s))
      else if s.tablesFilled then .next { commitHeader flags b7m1 last (leValue size) s with phase := .symbols }
      else takeError .corruptedData (commitHeader flags b7m1 last (leValue size) s) := by
  rw [BitVec.xor_assoc] at h
  have hright : ¬xorBytes (flags :: cx :: size) ≠ Config.blockChecksum := not_not_intro h
  exact if_neg hright

end

/-- What a header commits, with the block's byte count written out (R196, R199). -/
theorem commitHeader_eq (flags : Byte) (b7m1 : BitVec 3) (last : Bool) (size : Nat) (s : State) :
    commitHeader flags b7m1 last size s = { s with
      hdrFlags := flags
      minorError := s.minorError || decide (size + (b7m1.toNat + 1) / 8 = 0)
      blockEnd := s.pc / 8 + (if size + (b7m1.toNat + 1) / 8 = 0 then 1 else size + (b7m1.toNat + 1) / 8) - s.params.blockEndBias
      blockEndBits7 := (b7m1.toNat + 1) % 8
      isLastBlock := last } := by
  simp only [commitHeader, Operands.blockBytes, byteOff_eq_div, Nat.shiftRight_eq_div_pow, Nat.reducePow]

/-- Committing a header touches nothing a flush depends on. -/
theorem State.flushable.commitHeader (h : s.flushable) (flags : Byte) (b7m1 : BitVec 3) (last : Bool) (size : Nat) :
    (commitHeader flags b7m1 last size s).flushable :=
  ⟨h.lap, h.regions, h.bytes⟩

end

/-- Settles O22: the checksum is right, so the end is committed and the level lengths start. -/
theorem headerWithTablesCommits : Obligations.HeaderWithTablesCommits := by
  intro i num b7m1 r5 last cx s0 s1 s2 S x s h flags b7 bs hsum
  obtain ⟨size, rfl, rfl, hi⟩ := exists_sizedHeader h
  have hexec : exec i s = readHeader flags b7m1 last true cx size s := exec_sizedHeader hi s
  rw [hexec, readHeader_goodChecksum hsum, if_pos rfl, commitHeader_eq]
  rfl

/-- Settles O23: with the right checksum the end is committed first, and only then are filled tables asked for. -/
theorem headerWithoutTables : Obligations.HeaderWithoutTables := by
  intro i num b7m1 r5 last cx s0 s1 s2 S x s h flags b7 bs committed hsum
  obtain ⟨size, rfl, rfl, hi⟩ := exists_sizedHeader h
  have hexec := exec_sizedHeader hi s
  have hflags : BitVec.ofNat 8 (128 * false.toNat + 64 * last.toNat + 32 * r5.toNat + 8 * num + b7m1.toNat) = flags := by
    rw [Bool.toNat_false, Nat.mul_zero, Nat.zero_add]
  have hcommitted : commitHeader flags b7m1 last (leValue size) s = committed := commitHeader_eq ..
  rw [hflags, readHeader_goodChecksum hsum, if_neg Bool.false_ne_true, hcommitted] at hexec
  refine ⟨fun hfilled => ?_, fun hfilled hflush => ?_⟩
  · rw [hexec, if_pos hfilled]
  · rw [hexec, if_neg (by simp [hfilled]), ← hcommitted]
    exact (hflush.commitHeader ..).takeError _

/-- Settles O24: `num = 3` raises at once, and a wrong checksum before anything is committed. -/
theorem badHeaderCommitsNothing : Obligations.BadHeaderCommitsNothing := by
  intro b7m1 r5 last tables cx s0 s1 s2 s hflush flags
  have corrupt {i : Instr} {num : Nat} {size : List Byte} (hi : SizedHeader b7m1 r5 last tables cx num size i)
      (hsum : flags num ^^^ cx ^^^ xorBytes size ≠ 0x5A) : ∃ t, exec i s = .next t ∧ failedWith .corruptedData s t := by
    rw [exec_sizedHeader hi, readHeader_badChecksum hsum]
    exact hflush.takeError _
  refine ⟨hflush.takeError _, fun hsum => corrupt (.one s0) ?_, fun hsum => corrupt (.two s0 s1) ?_,
    fun hsum => corrupt (.three s0 s1 s2) ?_⟩
  · simpa [xorBytes] using hsum
  · simpa [xorBytes] using hsum
  · simpa [xorBytes, BitVec.xor_assoc] using hsum

end Sys2Proof.Machine
end

section
/-! PROOFS. Table transmission (42_block_tables.md R200 to R217): what each level nibble and level symbol appends. -/

namespace Sys2Proof.Machine

section
variable {s : State}

/-! The level lengths. -/

/-- A first nibble below 15 is the length it names (R215). -/
theorem exec_levelNib_length {i : Instr} (hf : i.format = .levelNib) (hi : i.symbol < 15) (s : State) :
    exec i s = .next (addLevels 1 i.symbol s) := by
  cases i <;> cases hf
  case lvlEsc => exact absurd hi (Nat.lt_irrefl 15)
  all_goals rfl

/-- A second nibble other than 0 is a run of zeros (R217). -/
theorem exec_levelNib2_run {i : Instr} (hf : i.format = .levelNib2) (hi : i.symbol ≠ 0) (s : State) :
    exec i s = .next (addLevels (i.symbol + 2) 0 s) := by
  cases i <;> cases hf
  case lvlNib15 => exact absurd rfl hi
  all_goals rfl

/-- One length is never cut while one is missing (R201). -/
theorem addLevels_one (h : s.lv.length < 20) (n : Nat) : addLevels 1 n s = { s with lv := s.lv ++ [n], phase := .levelNib } := by
  have hone : min 1 (Config.levelSize - s.lv.length) = 1 := by rw [Config.levelSize]; omega
  rw [addLevels, hone]
  rfl

/-! The table lengths. -/

/-- A level symbol below 16 is the length it names (R210). -/
theorem exec_levelSym_length {i : Instr} (hf : i.format = .levelSym) (hi : i.symbol < 16) (s : State) :
    exec i s = .next (addLengths 1 i.symbol s) := by
  cases i <;> cases hf
  case lvRepS | lvRepL | lvZeroS | lvZeroL => simp [Instr.symbol] at hi
  all_goals rfl

/-- With R12's defaults a table set has 436 lengths, or 452 in a v7 file (R203). -/
theorem tableTotal_default (hP : s.params = Config.params) : s.tableTotal = if s.props.getLsbD 1 then 452 else 436 := by
  rw [tableTotal_eq, hP]
  split <;> rfl

/-- The run of a level symbol with R12's defaults, cut at the table's end (R203, R204). -/
theorem addLengths_run_default (hP : s.params = Config.params) (sym e v : Nat) :
    let T := if s.props.getLsbD 1 then 452 else 436
    addLengths (Operands.levelRunCount s.params sym e) v s =
      { s with tbl := s.tbl ++ List.replicate (min (Operands.levelRunCount Config.params sym e) (T - s.tbl.length)) v } := by
  intro T
  have hcount : Operands.levelRunCount s.params sym e = Operands.levelRunCount Config.params sym e := by rw [hP]
  rw [hcount, addLengths, tableTotal_default hP]

/-- One length is never cut while one is missing (R203). -/
theorem addLengths_one (h : s.tbl.length < s.tableTotal) (v : Nat) : addLengths 1 v s = { s with tbl := s.tbl ++ [v] } := by
  have hone : min 1 (s.tableTotal - s.tbl.length) = 1 := by omega
  rw [addLengths, hone]
  rfl

/-- A repeat symbol repeats the last length (R204). -/
theorem repeatLength_append {done : List Nat} {v : Nat} (h : s.tbl = done ++ [v]) (sym e : Nat) :
    repeatLength sym e s = .next (addLengths (Operands.levelRunCount s.params sym e) v s) := by
  rw [repeatLength, h, List.getLast?_concat]

/-- At the start of the table there is nothing to repeat (R204). -/
theorem repeatLength_nil (h : s.tbl = []) (sym e : Nat) : repeatLength sym e s = takeError .corruptedData s := by
  rw [repeatLength, h, List.getLast?_nil]

end

/-- Settles O25: a nibble's row names the length or the run that `addLevels` appends. -/
theorem levelNibblesAppend : Obligations.LevelNibblesAppend := by
  intro i s hlen
  refine ⟨fun hf hi => ?_, rfl, ?_, fun hf hi => exec_levelNib2_run hf hi s⟩
  · rw [exec_levelNib_length hf hi, addLevels_one hlen]
  · rw [← addLevels_one hlen]
    rfl

/-- Settles O26: a symbol below 16 names its length, and the zero runs start from 3 and 7 on R12's defaults. -/
theorem levelSymbolsAppend : Obligations.LevelSymbolsAppend := by
  intro i e s T hP hlen
  have hroom : s.tbl.length < s.tableTotal := by rwa [tableTotal_default hP]
  refine ⟨fun hf hi => ?_, fun _ => ?_, fun _ => ?_⟩
  · rw [exec_levelSym_length hf hi, addLengths_one hroom]
  · exact congrArg _ (addLengths_run_default hP 18 e 0)
  · exact congrArg _ (addLengths_run_default hP 19 e 0)

/-- Settles O27: both symbols are `repeatLength`, which looks at the last length. -/
theorem levelRepeatsPrecedingEntry : Obligations.LevelRepeatsPrecedingEntry := by
  intro e v done s T hP
  have repeats (sym : Nat) (htbl : s.tbl = done ++ [v]) : repeatLength sym e s = .next { s with
      tbl := s.tbl ++ List.replicate (min (Operands.levelRunCount Config.params sym e) (T - s.tbl.length)) v } := by
    rw [repeatLength_append htbl, addLengths_run_default hP]
  have corrupt (sym : Nat) (htbl : s.tbl = []) (hflush : s.flushable) :
      ∃ t, repeatLength sym e s = .next t ∧ failedWith .corruptedData s t := by
    rw [repeatLength_nil htbl]
    exact hflush.takeError _
  exact ⟨fun htbl _ _ => repeats 16 htbl, fun htbl _ _ => repeats 17 htbl, fun htbl hflush _ => corrupt 16 htbl hflush,
    fun htbl hflush _ => corrupt 17 htbl hflush⟩

end Sys2Proof.Machine
end

section
/-! PROOFS. The ends of the table sections (42_block_tables.md R200 to R208): the over-read test, the level decoder, and the split and
the builds of a whole table set. -/

namespace Sys2Proof.Machine

section
variable {s : State}

/-! The over-read test. -/

/-- The reader has passed the block's end, or the end of the input (R207, R149, R151). -/
theorem tableOverRead_iff (s : State) : s.tableOverRead = true ↔
    8 * s.blockEnd + s.blockEndBits7 < s.pc ∨ (s.wasFinished = true ∧ 8 * s.src.bytes.length < s.pc) := by
  rw [State.tableOverRead, State.isBlockOverRead, State.inputEofError, Bool.or_eq_true, Bool.and_eq_true, decide_eq_true_iff,
    decide_eq_true_iff]
  rfl

/-- With twenty level lengths the step ends their section (R201). -/
theorem step_levelsDone (hp : s.phase = .levelNib) (hlen : s.lv.length = 20) : step s = (levelsDone s).outcome := by
  have hall : Config.levelSize ≤ s.lv.length := Nat.le_of_eq hlen.symm
  exact step_act (by simp only [before, hp, beforeNibble, if_pos hall])

/-- With all its lengths the step ends the table (R203). -/
theorem step_tablesDone (hp : s.phase = .levelSym) (hlen : s.tbl.length = s.tableTotal) : step s = (tablesDone s).outcome := by
  have hall : s.tableTotal ≤ s.tbl.length := Nat.le_of_eq hlen.symm
  exact step_act (by simp only [before, hp, beforeLevelSymbol, if_pos hall])

/-- After the level lengths an over-read is corrupt (R207). -/
theorem levelsDone_overRead (h : s.tableOverRead = true) : levelsDone s = .raised .corruptedData s := if_pos h

/-- After the table lengths an over-read is corrupt (R207). -/
theorem tablesDone_overRead (h : s.tableOverRead = true) : tablesDone s = .raised .corruptedData s := if_pos h

/-- Before a level symbol an over-read, with the input's end as `prepare` finds it, is corrupt (R207). -/
theorem step_levelSym_overRead (hp : s.phase = .levelSym) (hsrc : s.sourceFails = false) (hlen : s.tbl.length < s.tableTotal)
    (h : s.preparedState.tableOverRead = true) : step s = takeError .corruptedData s.preparedState :=
  step_act (by simp only [before, hp, beforeLevelSymbol, if_neg (Nat.not_le.2 hlen), prepared_eq hsrc, if_pos h])

theorem State.flushable.preparedState (h : s.flushable) : s.preparedState.flushable := ⟨h.lap, h.regions, h.bytes⟩

/-! The level decoder. -/

/-- Level lengths that are no code are corrupt (R202). -/
theorem levelsDone_rejected (h : s.tableOverRead = false) (hbuild : buildAccepts .fullOrEmpty s.lv = false) :
    levelsDone s = .raised .corruptedData s := by
  simp only [levelsDone, h, Huff.build, hbuild, Bool.false_eq_true, if_false]

/-- The level decoder is built from an accepted table, and the table lengths start (R202). -/
theorem levelsDone_accepted (h : s.tableOverRead = false) (hbuild : buildAccepts .fullOrEmpty s.lv = true) :
    levelsDone s = .ok { s with level := Huff.ofLens 0 s.lv, tbl := [], phase := .levelSym } := by
  simp only [levelsDone, h, Huff.build, hbuild, Bool.false_eq_true, if_false, if_true, Config.fastLevel]

/-! The table set. -/

/-- The sections of a whole table, where `d` distance lengths were sent (R205, R208, R107). -/
theorem splitTable_eq {P : Config.Params} {v7 : Bool} {t : List Nat} {d : Nat} (hd : d = if v7 then 80 else 64)
    (ht : t.length = P.mainSize + d + 16 + 44) :
    splitTable P v7 t = (t.take P.mainSize, (t.drop P.mainSize).take d ++ List.replicate (80 - d) 0,
      (t.drop (P.mainSize + d)).take 16, t.drop (P.mainSize + d + 16)) := by
  have hdist : (if v7 = true then Config.distSizeV7 else Config.distSizeV6) = d := hd.symm
  have hlen : (t.drop (P.mainSize + d + 16)).take 44 = t.drop (P.mainSize + d + 16) :=
    List.take_of_length_le (by rw [List.length_drop]; omega)
  simp only [splitTable, hdist, List.drop_drop]
  simp only [Config.alignSize, Config.lenSize, Config.distSizeV7, hlen]

/-- Every section of a table set is a code or empty (R173, R205). -/
abbrev sectionsAccepted (main dist align len : List Nat) : Prop :=
  buildAccepts .fullOrEmpty main = true ∧ buildAccepts .fullOrEmpty dist = true ∧
    buildAccepts .fullOrEmpty align = true ∧ buildAccepts .fullOrEmpty len = true

/-- The four builds of an accepted table set (R205). -/
theorem buildSet_accepted {main dist align len : List Nat} (h : sectionsAccepted main dist align len) :
    buildSet main dist align len = some ⟨Huff.ofLens 10 main, Huff.ofLens 7 dist, Huff.ofLens 6 align, Huff.ofLens 7 len⟩ := by
  obtain ⟨hmain, hdist, halign, hlen⟩ := h
  simp only [buildSet, Huff.build, hmain, hdist, halign, hlen, if_true]
  rfl

/-- A build that succeeds is of an accepted table (R173). -/
theorem accepts_of_build {F : Nat} {lens : List Nat} {H : Huff} (h : Huff.build F .fullOrEmpty lens = some H) :
    buildAccepts .fullOrEmpty lens = true := by
  unfold Huff.build at h
  split at h
  · assumption
  · cases h

/-- The four builds give none where one section is not accepted (R205). -/
theorem buildSet_rejected {main dist align len : List Nat} (h : ¬sectionsAccepted main dist align len) :
    buildSet main dist align len = none := by
  unfold buildSet
  split
  · rename_i hmain hdist halign hlen
    exact absurd ⟨accepts_of_build hmain, accepts_of_build hdist, accepts_of_build halign, accepts_of_build hlen⟩ h
  · rfl

/-- The align decoder is used where some align length is not 4 (R206). -/
theorem usesAlignBits_eq_decide (align : List Nat) : usesAlignBits align = decide (∃ l ∈ align, l ≠ 4) := by
  rw [Bool.eq_iff_iff, usesAlignBits, List.any_eq_true, decide_eq_true_iff]
  simp only [decide_eq_true_iff]

section
variable {main dist align len : List Nat}

/-- An accepted table set takes effect (R205, R206). -/
theorem tablesDone_accepted (h : s.tableOverRead = false) (hsplit : splitTable s.params s.v7 s.tbl = (main, dist, align, len))
    (haccepted : sectionsAccepted main dist align len) :
    tablesDone s = .ok { s with
      huff := ⟨Huff.ofLens 10 main, Huff.ofLens 7 dist, Huff.ofLens 6 align, Huff.ofLens 7 len⟩
      useAlignBits := decide (∃ l ∈ align, l ≠ 4)
      tablesFilled := true
      phase := .symbols } := by
  simp only [tablesDone, h, Bool.false_eq_true, if_false, hsplit, buildSet_accepted haccepted, usesAlignBits_eq_decide]

/-- A table set with a section that is not accepted is corrupt and leaves the four decoders free (R205, R385). -/
theorem tablesDone_rejected (h : s.tableOverRead = false) (hsplit : splitTable s.params s.v7 s.tbl = (main, dist, align, len))
    (hrejected : ¬sectionsAccepted main dist align len) :
    tablesDone s = .raised .corruptedData
      { s with huff := Config.decodersAfterFailedBuild s.freeCount, freeCount := s.freeCount + 1 } := by
  simp only [tablesDone, h, Bool.false_eq_true, if_false, hsplit, buildSet_rejected hrejected]

end

end

/-- Settles O28: the step is `levelsDone`, whose three ends exclude each other. -/
theorem levelDecoderIsBuilt : Obligations.LevelDecoderIsBuilt := by
  intro s hp hlen hflush overRead
  have corrupt := hflush.takeError .corruptedData
  have inside (h : ¬overRead) : s.tableOverRead = false := by
    rw [← Bool.not_eq_true, tableOverRead_iff]
    exact h
  rw [step_levelsDone hp hlen]
  refine ⟨fun h => ?_, fun h hbuild => ?_, fun h hbuild => ?_⟩
  · rwa [Flow.outcome_raised (levelsDone_overRead ((tableOverRead_iff s).2 h))]
  · rwa [Flow.outcome_raised (levelsDone_rejected (inside h) hbuild)]
  · rw [Flow.outcome_ok (levelsDone_accepted (inside h) hbuild)]

/-- Settles O29: the step is `tablesDone` on the sections that `splitTable_eq` gives. -/
theorem tableSetTakesEffect : Obligations.TableSetTakesEffect := by
  intro s hp M D hlen hover main dist align len
  have hall : s.tbl.length = s.tableTotal := by
    rw [tableTotal_eq, hlen]
    simp only [M, D]
    split <;> omega
  have hsplit : splitTable s.params s.v7 s.tbl = (main, dist, align, len) := splitTable_eq rfl hlen
  have hinside : s.tableOverRead = false := by
    rw [← Bool.not_eq_true, tableOverRead_iff]
    exact hover
  rw [step_tablesDone hp hall]
  refine ⟨fun haccepted => ?_, fun hrejected hflush => ?_⟩
  · rw [Flow.outcome_ok (tablesDone_accepted hinside hsplit haccepted)]
  · let H := Config.decodersAfterFailedBuild s.freeCount
    have hflush' : State.flushable { s with huff := H, freeCount := s.freeCount + 1 } :=
      ⟨hflush.lap, hflush.regions, hflush.bytes⟩
    obtain ⟨t, ht, hfailed⟩ := hflush'.takeError .corruptedData
    exact ⟨t, H, by rw [Flow.outcome_raised (tablesDone_rejected hinside hsplit hrejected), ht], hfailed⟩

/-- Settles O30: the test of R207 stands in `levelsDone`, before a level symbol once `prepare` has gone through, and in `tablesDone`. -/
theorem tableOverReadIsCorrupt : Obligations.TableOverReadIsCorrupt := by
  intro s s1 hflush hsrc hs1 overRead T
  obtain rfl : s1 = s.preparedState := hs1
  have hT : s.tableTotal = T := tableTotal_eq s
  refine ⟨fun hp hlen h => ?_, fun hp hlen h => ?_, fun hp hlen h => ?_⟩
  · rw [step_levelsDone hp hlen, Flow.outcome_raised (levelsDone_overRead ((tableOverRead_iff s).2 h))]
    exact hflush.takeError _
  · rw [step_levelSym_overRead hp hsrc (hT ▸ hlen) ((tableOverRead_iff _).2 h)]
    exact hflush.preparedState.takeError _
  · rw [step_tablesDone hp (hT ▸ hlen), Flow.outcome_raised (tablesDone_overRead ((tableOverRead_iff s).2 h))]
    exact hflush.takeError _

end Sys2Proof.Machine
end

section
/-! PROOFS. The symbol loop (43_lz_symbols.md R222, 45_output_mainloop.md R300 to R305): its four tests in their order, and the main
symbol that is decoded where none of them fires. -/

namespace Sys2Proof.Machine

section
variable {s u v : State}

/-! The tests, with their registers written out. -/

/-- Test 1 (R222). -/
theorem sizeReached_iff (s : State) : s.sizeReached = true ↔ s.sizeDefined = true ∧ s.lzEnd ≤ s.lzSize + s.windowPos := by
  rw [State.sizeReached, Bool.and_eq_true, decide_eq_true_iff]
  rfl

/-- Test 2 (R222, R224). -/
theorem limitReached_iff (s : State) : s.limitReached = true ↔ s.limit ≤ s.windowPos := decide_eq_true_iff

/-- Test 3 (R222, R151). -/
theorem inputEofError_iff (s : State) : s.inputEofError = true ↔ s.wasFinished = true ∧ 8 * s.src.bytes.length < s.pc := by
  rw [State.inputEofError, Bool.and_eq_true, decide_eq_true_iff]
  rfl

/-- Test 4 (R222, R149). -/
theorem atBlockEnd_iff (s : State) : s.atBlockEnd = true ↔ 8 * s.blockEnd + s.blockEndBits7 ≤ s.pc := decide_eq_true_iff

/-- The block was over-read (R149). -/
theorem isBlockOverRead_iff (s : State) : s.isBlockOverRead = true ↔ 8 * s.blockEnd + s.blockEndBits7 < s.pc :=
  decide_eq_true_iff

/-! The end of a write step and of a file. -/

/-- The tests after the flush and the wrap of a write step (R300, R304). -/
theorem writeStepFinished_iff (s : State) : (s.allWritten || s.sizeReached) = true ↔
    s.sizeDefined = true ∧ (s.unpackedSize.toNat ≤ s.writtenFileSize ∨ s.lzEnd ≤ s.lzSize + s.windowPos) := by
  rw [Bool.or_eq_true, sizeReached_iff, State.allWritten, Bool.and_eq_true, decide_eq_true_iff, ← and_or_left]

theorem flushAndWrap_eq (hu : flush s = .ok u) (hv : wrap u = .ok v) : flushAndWrap s = .ok v := Flow.bind_ok.2 ⟨u, hu, hv⟩

/-- A last flush and wrap that go through finish the file (R300). -/
theorem lastFlush_eq (byEof : Bool) (hu : flush s = .ok u) (hv : wrap u = .ok v) : lastFlush byEof s = .ok (finish byEof v) :=
  Flow.bind_ok.2 ⟨v, flushAndWrap_eq hu hv, rfl⟩

/-- A flush and a wrap that go through end the write step: with the file, or in the next one (R300, R304). -/
theorem endWriteStep_eq (hu : flush s = .ok u) (hv : wrap u = .ok v) :
    endWriteStep s = .ok (if v.allWritten || v.sizeReached then finish false v else beginWriteStep v) := by
  refine Flow.bind_ok.2 ⟨v, flushAndWrap_eq hu hv, ?_⟩
  split <;> rfl

/-! The step, test by test. -/

/-- Where test 1 or test 2 fires, the step ends the write step (R222). -/
theorem step_endWriteStep (hp : s.phase = .symbols)
    (h : (s.sizeDefined = true ∧ s.lzEnd ≤ s.lzSize + s.windowPos) ∨ s.limit ≤ s.windowPos) :
    step s = (endWriteStep s).outcome := by
  have htest : (s.sizeReached || s.limitReached) = true := by rwa [Bool.or_eq_true, sizeReached_iff, limitReached_iff]
  exact step_act (by simp only [before, hp, beforeSymbol, if_pos htest])

/-- The symbol loop looks at its input: neither of the first two tests fires, and the source does not fail (R222, R142). -/
structure readsInput (s : State) : Prop where
  phase : s.phase = .symbols
  unfinished : ¬(s.sizeDefined = true ∧ s.lzEnd ≤ s.lzSize + s.windowPos)
  room : s.windowPos < s.limit
  source : s.sourceFails = false

/-- `prepare` and the tests after it (R222, log 27). -/
theorem readsInput.before_eq (h : readsInput s) : before s =
    if s.preparedState.inputEofError then .act (lastFlush true s.preparedState).outcome
    else if s.preparedState.atBlockEnd then .act (endBlock s.preparedState).outcome
    else .go s.preparedState := by
  have htests : ¬(s.sizeReached || s.limitReached) = true := by
    rw [Bool.or_eq_true, sizeReached_iff, limitReached_iff, not_or]
    exact ⟨h.unfinished, Nat.not_le.2 h.room⟩
  simp only [before, h.phase, beforeSymbol, if_neg htests, prepared_eq h.source]

/-- Past the end of the input, the step ends the file (R222, test 3). -/
theorem readsInput.step_eof (h : readsInput s) (heof : s.preparedState.inputEofError = true) :
    step s = (lastFlush true s.preparedState).outcome :=
  step_act (by rw [h.before_eq, if_pos heof])

/-- At the end of the block or past it, the step ends the block (R222, test 4). -/
theorem readsInput.step_blockEnd (h : readsInput s) (heof : ¬s.preparedState.inputEofError = true)
    (hend : 8 * s.blockEnd + s.blockEndBits7 ≤ s.pc) : step s = (endBlock s.preparedState).outcome := by
  have hblock : s.preparedState.atBlockEnd = true := (atBlockEnd_iff s.preparedState).2 hend
  exact step_act (by rw [h.before_eq, if_neg heof, if_pos hblock])

/-- Where no test fires, the machine is ready for the fetch (R222, test 5). -/
theorem readsInput.before_go (h : readsInput s) (heof : ¬s.preparedState.inputEofError = true)
    (hinside : s.pc < 8 * s.blockEnd + s.blockEndBits7) : before s = .go s.preparedState := by
  have hblock : ¬s.preparedState.atBlockEnd = true := fun hend => Nat.not_le.2 hinside ((atBlockEnd_iff s.preparedState).1 hend)
  rw [h.before_eq, if_neg heof, if_neg hblock]

/-! The end of a block. -/

theorem endBlock_overRead (h : 8 * s.blockEnd + s.blockEndBits7 < s.pc) : endBlock s = .raised .corruptedData s :=
  if_pos ((isBlockOverRead_iff s).2 h)

/-- At the very end of a block the reader aligns; the last block ends the file, another is followed by a header (R222, R300). -/
theorem endBlock_exact (h : s.pc = 8 * s.blockEnd + s.blockEndBits7) : endBlock s =
    if s.isLastBlock then lastFlush false (alignToByte s) else .ok { alignToByte s with phase := .header } :=
  if_neg fun hover => Nat.ne_of_gt ((isBlockOverRead_iff s).1 hover) h

end

/-- Settles O6: the step is `endWriteStep`, whose flush and wrap are given. -/
theorem writeStepEndsWithFlushAndWrap : Obligations.WriteStepEndsWithFlushAndWrap := by
  intro s u v hp htest hu hv
  rw [step_endWriteStep hp htest, Flow.outcome_ok (endWriteStep_eq hu hv), if_congr (writeStepFinished_iff v) rfl rfl]
  rfl

/-- Settles O7: past the first two tests the step is `lastFlush` or `endBlock`, and the block's end is either passed or met. -/
theorem inputEndAndBlockEndTests : Obligations.InputEndAndBlockEndTests := by
  intro s s1 hp hsize hlimit hsrc hs1 eof ends
  obtain rfl : s1 = s.preparedState := hs1
  have hreads : readsInput s := ⟨hp, hsize, hlimit, hsrc⟩
  have heof : s.preparedState.inputEofError = true ↔ eof := inputEofError_iff s.preparedState
  have blockEnd (h : ¬eof) (hend : ends ≤ s.pc) : step s = (endBlock s.preparedState).outcome :=
    hreads.step_blockEnd (mt heof.1 h) hend
  refine ⟨fun h u v hu hv => ?_, fun h hover hflush => ?_, fun h hend hlast u v hu hv => ?_, fun h hend hlast => ?_⟩
  · rw [hreads.step_eof (heof.2 h), Flow.outcome_ok (lastFlush_eq true hu hv)]
    rfl
  · rw [blockEnd h hover.le, Flow.outcome_raised (endBlock_overRead (s := s.preparedState) hover)]
    exact hflush.preparedState.takeError _
  · have hlast' : s.preparedState.isLastBlock = true := hlast
    rw [blockEnd h hend.ge, endBlock_exact (s := s.preparedState) hend, if_pos hlast', Flow.outcome_ok (lastFlush_eq false hu hv)]
    rfl
  · have hlast' : ¬s.preparedState.isLastBlock = true := Bool.eq_false_iff.1 hlast
    rw [blockEnd h hend.ge, endBlock_exact (s := s.preparedState) hend, if_neg hlast']
    rfl

/-- Settles O5: no test fires, so the step runs what the bits at `pc` decode to in the main code (`step_decoded`). -/
theorem symbolLoopRunsMainSymbol : Obligations.SymbolLoopRunsMainSymbol := by
  intro s s1 i n hp hsize hlimit hsrc hs1 heof hinside hd
  obtain rfl : s1 = s.preparedState := hs1
  have hreads : readsInput s := ⟨hp, hsize, hlimit, hsrc⟩
  have hgo := hreads.before_go (mt (inputEofError_iff _).1 heof) hinside
  exact step_decoded (by simp [hp]) hgo (advanced_preparedState s) (by simp only [State.decodeCtx, hp])
    (fun _ => by simp only [State.decodeCtx, hp]) hd

end Sys2Proof.Machine
end

section
/-! PROOFS. The elements of the symbol loop (43_lz_symbols.md R225 to R245, 44_filters.md R267): literals, the repetition registers, the
lengths and distances of a match, the copy and the distances it rejects, and FILTER. -/

namespace Sys2Proof.Machine

section
variable {s : State}

/-! The main alphabet. -/

/-- From symbol 262 on a main symbol is the length slot of a MATCH, from 306 on it is reserved (R227, R228). -/
theorem exec_mainSym_bySymbol {i : Instr} (h : i.format = .mainSym) (s : State) :
    i.symbol < 262 ∨
    (∃ slot, slot < 44 ∧ i.symbol = slot + 262 ∧ exec i s = .next (matchLength slot (i.operands.headD 0) s)) ∨
    (306 ≤ i.symbol ∧ exec i s = takeError .corruptedData s) := by
  cases i <;> cases h
  case lit b =>
    have hbyte : b.toNat < 262 := Nat.lt_trans b.isLt (by omega)
    exact .inl hbyte
  case filter | lastlen | rep0 | rep1 | rep2 | rep3 => exact .inl (Nat.le_of_ble_eq_true rfl)
  case reserved306 | reserved307 | reserved308 | reserved309 | reserved310 | reserved311 =>
    exact .inr (.inr ⟨Nat.le_of_ble_eq_true rfl, rfl⟩)
  all_goals exact .inr (.inl ⟨_, by decide, rfl, rfl⟩)

/-! Lengths. -/

/-- The length of a slot with the operand that fits its field (R111, R229). -/
theorem slotToLen_eq {slot : Nat} {ops : List Nat} (hs : slot < 44) (h : fieldsHold (Operands.lenFields slot) ops = true) :
    Operands.slotToLen slot (ops.headD 0) =
      if slot < 8 then slot + 2 else ((4 ||| (slot &&& 3)) <<< ((slot >>> 2) - 1)) + ops.headD 0 + 2 := by
  have hlen := fieldsHold_length h
  rw [lenFields_length slot hs] at hlen
  unfold Operands.slotToLen Operands.lenBase Operands.lenExtraBits
  split_ifs at hlen ⊢
  · rw [List.length_eq_zero_iff.1 hlen]
    rfl
  · rfl

/-- The operand of a MATCH fits its length slot's field (R110). -/
theorem matchSlot_operands {i : Instr} {slot : Nat} (hf : i.format = .mainSym) (hs : slot < 44) (hsym : i.symbol = slot + 262)
    (hwf : i.wellFormed = true) : fieldsHold (Operands.lenFields slot) i.operands = true := by
  have hmatch : 262 ≤ slot + 262 ∧ slot + 262 < 306 := by omega
  rwa [Instr.wellFormed, hf, hsym, fieldsOf, Operands.mainFields, if_pos hmatch, Nat.add_sub_cancel] at hwf

/-! Distances. -/

/-- The distance of a slot that is no sentinel, its low part assembled from one or two operands (R112, R113, R234). -/
theorem slotToDist_operands {d low : Nat} {ops : List Nat} (hd : d < 62) (hops : fieldsHold (Operands.distFields d) ops = true)
    (hnone : ops = [] → low = 0) (hone : ∀ x, ops = [x] → low = x)
    (htwo : ∀ high lo4, ops = [high, lo4] → low = 16 * high + lo4) :
    Operands.slotToDist d (distLow ops) = if d < 4 then d + 1 else ((2 ||| (d &&& 1)) <<< ((d - 2) / 2)) + low + 1 := by
  have hfew : ops.length ≤ 2 := by
    rw [fieldsHold_length hops, distFields_length d (by omega)]
    split_ifs <;> omega
  have hlow : distLow ops = low := by
    match ops, hfew with
    | [], _ => exact (hnone rfl).symm
    | [x], _ => exact (hone x rfl).symm
    | [high, lo4], _ => rw [htwo high lo4 rfl, distLow, Operands.joinLow, Nat.shiftLeft_eq, Nat.mul_comm]
  rw [slotToDist_eq hd hops, hlow]

/-- The slots from 62 on are sentinels, with no length addend (R235). -/
theorem sentinelSlot {d : Nat} (hle : 62 ≤ d) (P : Config.Params) (low : Nat) :
    Operands.slotToDist d low = 0xFFFFFFFE ∧ Operands.lenPlus P d = 0 := by
  have hwidth : 30 ≤ Operands.distNumBits d := by
    rw [Operands.distNumBits, if_neg (by omega), Nat.shiftRight_eq_div_pow]
    omega
  exact ⟨if_pos hwidth, if_neg fun h => Nat.not_lt.2 hwidth h.2⟩

/-! The copy. -/

/-- A length that ends a REPk is stored, and the match that is ready is copied (R240, R237). -/
theorem State.matchReady.repLength {slot x len : Nat} (hlen : Operands.slotToLen slot x = len)
    (h : s.matchReady s.repDist.r0.toNat len) :
    ∃ t, repLength slot x s = .next t ∧
      t = { s with window := t.window, windowPos := s.windowPos + len, lastLength := len, phase := .symbols } ∧
      copied s.repDist.r0.toNat len s t := by
  have hstored : State.matchReady { s with lastLength := len, phase := .symbols } s.repDist.r0.toNat len :=
    ⟨h.positive, h.inDictionary, h.dictionary, h.afterStart, ⟨h.source.belowCursor, h.source.wholeLap⟩, h.room⟩
  obtain ⟨t, ht, hframe, hframed, hbytes⟩ := hstored.copyMatch
  refine ⟨t, ?_, hframe, hframed, hbytes⟩
  rw [Machine.repLength, hlen, ht]
  rfl

/-! The distances that are rejected (R238). -/

theorem badDistance_iff (s : State) (dist : Nat) :
    s.badDistance dist = true ↔ s.dictSizeForCheck < dist ∨ (s.lzSize = 0 ∧ s.windowPos < dist) := by
  simp only [State.badDistance, Bool.or_eq_true, Bool.and_eq_true, decide_eq_true_iff, gt_iff_lt]

/-- A match that fails the checks takes the error, with nothing copied. -/
theorem State.flushable.copyMatch_bad (h : s.flushable) {dist : Nat} (len : Nat)
    (hbad : s.dictSizeForCheck < dist ∨ (s.lzSize = 0 ∧ s.windowPos < dist)) :
    ∃ t, (copyMatch dist len s).outcome = .next t ∧ failedWith .corruptedData s t := by
  have hraised : copyMatch dist len s = .raised .corruptedData s := if_pos ((badDistance_iff s dist).2 hbad)
  rw [Flow.outcome_raised hraised]
  exact h.takeError _

/-- A MATCH writes its registers before the checks that it fails (R244, R245, R226). -/
theorem State.flushable.matchDist_bad (h : s.flushable) {slot low dist : Nat} (hdist : Operands.slotToDist slot low = dist)
    (hbad : s.dictSizeForCheck < dist ∨ (s.lzSize = 0 ∧ s.windowPos < dist)) :
    ∃ t, matchDist slot low s = .next t ∧
      failedWith .corruptedData (matchRegisters dist (s.pendLen + Operands.lenPlus s.params slot) s) t := by
  have hregisters : (matchRegisters dist (s.pendLen + Operands.lenPlus s.params slot) s).flushable :=
    ⟨h.lap, h.regions, h.bytes⟩
  rw [matchDist, hdist]
  exact hregisters.copyMatch_bad _ hbad

/-! FILTER. -/

/-- With a free place in the queue only the phase changes (R231). -/
theorem beginDescriptor_free (h : s.queue.length < 8192) : beginDescriptor s = .ok { s with phase := .vuDelta } := by
  have hfree : ¬Config.filterQueueMax ≤ s.queue.length := Nat.not_le.2 h
  simp only [beginDescriptor, if_neg hfree, Flow.bind]

/-- A saturated queue in which the flush frees a place (R267). -/
theorem beginDescriptor_drained {u : State} (hfull : 8192 ≤ s.queue.length) (hu : flush s = .ok u) (h : u.queue.length < 8192) :
    beginDescriptor s = .ok { u with phase := .vuDelta } := by
  have hsaturated : Config.filterQueueMax ≤ s.queue.length := hfull
  have hfree : ¬Config.filterQueueMax ≤ u.queue.length := Nat.not_le.2 h
  simp only [beginDescriptor, if_pos hsaturated, hu, Flow.bind, if_neg hfree]

/-- A queue that is still full after the flush is emptied, with the flag set (R267). -/
theorem beginDescriptor_emptied {u : State} (hfull : 8192 ≤ s.queue.length) (hu : flush s = .ok u) (h : 8192 ≤ u.queue.length) :
    beginDescriptor s = .ok { u with isUnsupportedFilter := true, queue := [], fb := [], phase := .vuDelta } := by
  have hsaturated : Config.filterQueueMax ≤ s.queue.length := hfull
  have hstill : Config.filterQueueMax ≤ u.queue.length := h
  simp only [beginDescriptor, if_pos hsaturated, hu, Flow.bind, if_pos hstill]

end

/-- Settles O31: the byte is put at the cursor, which has room. -/
theorem literalStoresAtCursor : Obligations.LiteralStoresAtCursor := by
  intro b s hroom
  have hput : putByte b s = .ok { s with window := s.window.write s.windowPos b, windowPos := s.windowPos + 1 } :=
    putByte_ok.2 ⟨hroom, rfl⟩
  exact ⟨_, Flow.outcome_ok hput, rfl, Memory.read_write_same .., fun a ha => Memory.read_write_other _ _ _ _ ha⟩

/-- Settles O32: without a length nothing is done, and with one the match that is ready is copied. -/
theorem lastlenRepeatsMatch : Obligations.LastlenRepeatsMatch := by
  refine fun s => ⟨fun hzero => if_pos hzero, fun hlength hready => ?_⟩
  obtain ⟨t, ht, hframe, hcopied⟩ := hready.copyMatch
  exact ⟨t, (if_neg hlength).trans (Flow.outcome_ok ht), hframe, hcopied⟩

/-- Settles O33: each row is `useRep`, and the registers are known. -/
theorem repSymbolsMoveToFront : Obligations.RepSymbolsMoveToFront := by
  intro r0 r1 r2 r3 s hregs
  have moved (k : Nat) : useRep k s = { s with repDist := RepDist.moveToFront ⟨r0, r1, r2, r3⟩ k, phase := .lenSlot } := by
    rw [useRep, hregs]
  exact ⟨congrArg _ (moved 0), congrArg _ (moved 1), congrArg _ (moved 2), congrArg _ (moved 3)⟩

/-- Settles O34: the slot and its operand give the length, with which the REPk ends. -/
theorem lengthSlotsCopyFromLastDistance : Obligations.LengthSlotsCopyFromLastDistance := by
  intro i len s hf hwf hlen hready
  obtain ⟨hslot, hexec⟩ := exec_lenSlot hf s
  have hfields : fieldsHold (Operands.lenFields i.symbol) i.operands = true := by rwa [Instr.wellFormed, hf] at hwf
  rw [hexec]
  exact hready.repLength ((slotToLen_eq hslot hfields).trans hlen.symm)

/-- Settles O35: the symbol is a length slot of MATCH, whose length is left pending. -/
theorem matchSlotsSetLength : Obligations.MatchSlotsSetLength := by
  intro i s hf hle hlt hwf slot
  rcases exec_mainSym_bySymbol hf s with hbelow | ⟨k, hk, hsym, hexec⟩ | ⟨habove, -⟩
  · omega
  · have hslot : slot = k := Nat.sub_eq_of_eq_add hsym
    rw [hexec, matchLength, slotToLen_eq hk (matchSlot_operands hf hk hsym hwf), hslot]
  · omega

/-- Settles O37: the sentinel exceeds every dictionary. -/
theorem sentinelDistancesAreCorrupt : Obligations.SentinelDistancesAreCorrupt := by
  intro i s hf hle hdict hflush
  obtain ⟨hdist, hplus⟩ := sentinelSlot hle s.params (distLow i.operands)
  obtain ⟨t, ht, hfailed⟩ := hflush.matchDist_bad hdist (.inl (by omega))
  rw [hplus] at hfailed
  exact ⟨t, (exec_distSlot hf s).2.trans ht, hfailed⟩

/-- Settles O38: each kind of match writes its registers and then fails the checks of `copyMatch`. -/
theorem invalidDistancesAreCorrupt : Obligations.InvalidDistancesAreCorrupt := by
  intro i s hflush bad
  refine ⟨fun hlength hbad => ?_, fun hf hwf hbad => ?_, fun hf hsym hwf dist hdist hbad => ?_⟩
  · obtain ⟨t, ht, hfailed⟩ := hflush.copyMatch_bad s.lastLength hbad
    exact ⟨t, (if_neg hlength).trans ht, hfailed⟩
  · have hstored : State.flushable
        { s with lastLength := Operands.slotToLen i.symbol (i.operands.headD 0), phase := .symbols } :=
      ⟨hflush.lap, hflush.regions, hflush.bytes⟩
    rw [(exec_lenSlot hf s).2]
    exact hstored.copyMatch_bad _ hbad
  · have hfields : fieldsHold (Operands.distFields i.symbol) i.operands = true := by rwa [Instr.wellFormed, hf] at hwf
    have hslot : Operands.slotToDist i.symbol (distLow i.operands) = dist :=
      (slotToDist_operands hsym hfields (fun h => by rw [h]) (fun x h => by rw [h]) (fun high lo4 h => by rw [h])).trans hdist.symm
    rw [(exec_distSlot hf s).2]
    exact hflush.matchDist_bad hslot hbad

/-- Settles O39: a symbol from 306 on takes the error in the state it is run in. -/
theorem reservedSymbolsAreCorrupt : Obligations.ReservedSymbolsAreCorrupt := by
  intro i s hf hle hflush
  rcases exec_mainSym_bySymbol hf s with hbelow | ⟨k, hk, hsym, -⟩ | ⟨-, hexec⟩
  · omega
  · omega
  · rw [hexec]
    exact hflush.takeError _

/-- Settles O40: the queue has a free place at once, after the flush, or only once it is emptied. -/
theorem filterOpensDescriptor : Obligations.FilterOpensDescriptor := by
  refine fun s => ⟨fun hfree => Flow.outcome_ok (beginDescriptor_free hfree), fun hfull u hu => ?_⟩
  exact ⟨fun hdrained => Flow.outcome_ok (beginDescriptor_drained hfull hu hdrained),
    fun hstill => Flow.outcome_ok (beginDescriptor_emptied hfull hu hstill)⟩

end Sys2Proof.Machine
end

section
/-! PROOFS. The filters (44_filters.md): the fate of a descriptor (R263 to R268). -/

namespace Sys2Proof.Machine

section
variable {s : State} {type channels : Nat}

/-! The fate of a descriptor. -/

/-- An oversize or overlapping descriptor sets the flag and is dropped (R264, R265). -/
theorem enqueueFilter_unsupported (h : Config.filterSizeMax < s.fltSize.toNat ∨ s.total + s.fltDelta.toNat < s.filterEnd) :
    enqueueFilter type channels s = { s with isUnsupportedFilter := true } := by
  rcases h with hover | hoverlap
  · exact if_pos hover
  · simp only [enqueueFilter, if_pos hoverlap, ite_self]

/-- An empty descriptor that is not unsupported is dropped silently (R266). -/
theorem enqueueFilter_empty (h : ¬(Config.filterSizeMax < s.fltSize.toNat ∨ s.total + s.fltDelta.toNat < s.filterEnd))
    (hzero : s.fltSize.toNat = 0) : enqueueFilter type channels s = s := by
  obtain ⟨hsize, hplace⟩ := not_or.1 h
  exact (if_neg hsize).trans ((if_neg hplace).trans (if_pos hzero))

/-- Any other descriptor is queued, and `filterEnd` moves to its end (R265). -/
theorem enqueueFilter_queued (h : ¬(Config.filterSizeMax < s.fltSize.toNat ∨ s.total + s.fltDelta.toNat < s.filterEnd))
    (hpos : ¬s.fltSize.toNat = 0) : enqueueFilter type channels s = { s with
      queue := s.queue ++ [{ startPos := s.total + s.fltDelta.toNat, size := s.fltSize.toNat, type := BitVec.ofNat 3 type, channels }]
      filterEnd := s.total + s.fltDelta.toNat + s.fltSize.toNat } := by
  obtain ⟨hsize, hplace⟩ := not_or.1 h
  exact (if_neg hsize).trans ((if_neg hplace).trans (if_neg hpos))

/-- With the codes of R12 a type code is the number of its FILTERTYPE row (R117, R262). -/
theorem rowCode_params (type : BitVec 3) : Operands.rowCode Config.params type.toNat = type.toNat := by
  revert type
  decide

/-- With the codes of R12 a type registers its own code (R262, R263). -/
theorem registerFilter_code (hparams : s.params = Config.params) (type : BitVec 3) :
    registerFilter type.toNat channels s = beginWriteStep (enqueueFilter type.toNat channels s) := by
  rw [registerFilter, hparams, rowCode_params]

end

/-- Each type registers the descriptor under its own row: DELTA with its channels, the others with none (R262, R263). -/
theorem exec_type {i : Instr} {type : BitVec 3} {channels : Nat} {chM1 : BitVec 5} (s : State)
    (h : (i = .typeDelta chM1 ∧ type = 0 ∧ channels = chM1.toNat + 1) ∨
      ((i, type) ∈ [(Instr.typeE8, 1), (.typeE8E9, 2), (.typeArm, 3), (.type4, 4), (.type5, 5), (.type6, 6), (.type7, 7)] ∧
        channels = 0)) :
    exec i s = .next (registerFilter type.toNat channels s) := by
  rcases h with ⟨rfl, rfl, rfl⟩ | ⟨hmem, rfl⟩
  · rfl
  · simp only [List.mem_cons, Prod.mk.injEq, List.not_mem_nil, or_false] at hmem
    rcases hmem with ⟨rfl, rfl⟩ | ⟨rfl, rfl⟩ | ⟨rfl, rfl⟩ | ⟨rfl, rfl⟩ | ⟨rfl, rfl⟩ | ⟨rfl, rfl⟩ | ⟨rfl, rfl⟩ <;> rfl

/-- Settles O42: the type registers its code, and the descriptor's size and place choose among the three fates. -/
theorem descriptorFate : Obligations.DescriptorFate := by
  intro i type channels chM1 s hparams htype size startPos
  rw [exec_type s htype, registerFilter_code hparams]
  split_ifs with hunsupported hzero
  · rw [enqueueFilter_unsupported hunsupported]
    rfl
  · rw [enqueueFilter_empty hunsupported hzero]
    rfl
  · rw [enqueueFilter_queued hunsupported hzero, BitVec.ofNat_toNat, BitVec.setWidth_eq]
    rfl

end Sys2Proof.Machine
end

section
/-! PROOFS. DELTA (44_filters.md R271): what one channel takes from the source and writes, and the channels one after another. -/

namespace Sys2Proof.Machine

/-- The running value of a DELTA channel after `n` source bytes, each taken from it in turn (R271). -/
def deltaValue (prev : Byte) (src : List Byte) (n : Nat) : Byte :=
  (List.range n).foldl (fun acc k => acc - src.getD k 0) prev

@[simp] theorem deltaValue_zero (prev : Byte) (src : List Byte) : deltaValue prev src 0 = prev := rfl

/-- The first source byte is taken first. -/
theorem deltaValue_succ (prev : Byte) (src : List Byte) (n : Nat) :
    deltaValue prev src (n + 1) = deltaValue (prev - src.headD 0) src.tail n := by
  have hhead : src.getD 0 0 = src.headD 0 := by cases src <;> rfl
  have htail (k : Nat) : src.getD (k + 1) 0 = src.tail.getD k 0 := by cases src <;> rfl
  simp only [deltaValue, List.range_succ_eq_map, List.foldl_cons, List.foldl_map, Nat.succ_eq_add_one, hhead, htail]

/-- The running value of a channel whose source begins `start` bytes into the region. -/
theorem deltaValue_drop (prev : Byte) (data : List Byte) (start n : Nat) :
    deltaValue prev (data.drop start) n = (List.range n).foldl (fun acc k => acc - data.getD (start + k) 0) prev := by
  simp only [deltaValue, List.getD_eq_getElem?_getD, List.getElem?_drop]

/-- The source bytes of the channel whose next destination index is `i`: one for each of `i`, `i + step`, … below `size` (R271). -/
def deltaTurns (step size i : Nat) : Nat := (size - i + step - 1) / step

section
variable {step : Nat}

theorem deltaTurns_past (hstep : 1 ≤ step) {size i : Nat} (h : size ≤ i) : deltaTurns step size i = 0 := by
  rw [deltaTurns, Nat.sub_eq_zero_of_le h]
  exact Nat.div_eq_of_lt (by omega)

theorem deltaTurns_inside (hstep : 1 ≤ step) {size i : Nat} (h : i < size) :
    deltaTurns step size i = deltaTurns step size (i + step) + 1 := by
  rw [deltaTurns, deltaTurns, ← Nat.add_div_right _ (by omega)]
  rcases Nat.lt_or_ge (i + step) size with hnext | hlast
  · congr 1
    omega
  · have hone : (size - i + step - 1) / step = 1 := Nat.div_eq_of_lt_le (by omega) (by omega)
    have hone' : (size - (i + step) + step - 1 + step) / step = 1 := Nat.div_eq_of_lt_le (by omega) (by omega)
    rw [hone, hone']

theorem deltaStart_succ (channels size c : Nat) :
    deltaStart channels size (c + 1) = deltaStart channels size c + deltaTurns channels size c := by
  simp only [deltaStart, deltaTurns, List.range_succ, List.map_append, List.map_cons, List.map_nil, List.sum_append, List.sum_singleton]

/-! One channel. -/

theorem deltaChannel_inside {fuel i : Nat} {prev : Byte} {src dst : List Byte} (h : i < dst.length) :
    deltaChannel step (fuel + 1) i prev src dst =
      deltaChannel step fuel (i + step) (prev - src.headD 0) src.tail (dst.set i (prev - src.headD 0)) := if_pos h

theorem deltaChannel_past {fuel i : Nat} {prev : Byte} {src dst : List Byte} (h : ¬i < dst.length) :
    deltaChannel step fuel i prev src dst = (src, dst) := by
  cases fuel with
  | zero => rfl
  | succ fuel => exact if_neg h

theorem deltaChannel_length (fuel i : Nat) (prev : Byte) (src dst : List Byte) :
    (deltaChannel step fuel i prev src dst).2.length = dst.length := by
  induction fuel generalizing i prev src dst with
  | zero => rfl
  | succ fuel ih =>
    by_cases hi : i < dst.length
    · rw [deltaChannel_inside hi, ih, List.length_set]
    · rw [deltaChannel_past hi]

/-- A channel writes only at its own indices. -/
theorem deltaChannel_other {m : Nat} (fuel i : Nat) (prev : Byte) (src dst : List Byte) (h : ∀ j, m ≠ i + j * step) :
    (deltaChannel step fuel i prev src dst).2[m]? = dst[m]? := by
  induction fuel generalizing i prev src dst with
  | zero => rfl
  | succ fuel ih =>
    by_cases hi : i < dst.length
    · have hfirst : i ≠ m := fun hm => h 0 (by omega)
      have hrest (j : Nat) : m ≠ i + step + j * step := by
        have := h (j + 1)
        rwa [Nat.succ_mul, Nat.add_comm (j * step), ← Nat.add_assoc] at this
      rw [deltaChannel_inside hi, ih _ _ _ _ hrest, List.getElem?_set_ne hfirst]
    · rw [deltaChannel_past hi]

/-- With fuel for every turn, a channel leaves the source bytes after its own. -/
theorem deltaChannel_source (hstep : 1 ≤ step) {fuel i : Nat} (prev : Byte) (src : List Byte) {dst : List Byte}
    (hfuel : dst.length ≤ i + fuel) :
    (deltaChannel step fuel i prev src dst).1 = src.drop (deltaTurns step dst.length i) := by
  induction fuel generalizing i prev src dst with
  | zero => rw [deltaTurns_past hstep (by omega)]; rfl
  | succ fuel ih =>
    by_cases hi : i < dst.length
    · rw [deltaChannel_inside hi, ih _ _ (by rw [List.length_set]; omega), List.length_set, deltaTurns_inside hstep hi,
        List.drop_tail]
    · rw [deltaChannel_past hi, deltaTurns_past hstep (by omega)]; rfl

/-- With fuel for every turn, a channel writes its running value at each of its indices. -/
theorem deltaChannel_value (hstep : 1 ≤ step) {fuel i : Nat} (prev : Byte) (src : List Byte) {dst : List Byte}
    (hfuel : dst.length ≤ i + fuel) {j : Nat} (hj : i + j * step < dst.length) :
    (deltaChannel step fuel i prev src dst).2[i + j * step]? = some (deltaValue prev src (j + 1)) := by
  induction fuel generalizing i prev src dst j with
  | zero => omega
  | succ fuel ih =>
    rw [deltaChannel_inside (by omega), deltaValue_succ]
    cases j with
    | zero =>
      rw [Nat.zero_mul, Nat.add_zero] at hj ⊢
      rw [deltaChannel_other _ _ _ _ _ (fun j => by omega), List.getElem?_set_self hj, deltaValue_zero]
    | succ j =>
      have hnext : i + (j + 1) * step = i + step + j * step := by rw [Nat.succ_mul]; omega
      rw [hnext] at hj ⊢
      exact ih _ _ (by rw [List.length_set]; omega) (by rwa [List.length_set])

end

/-! The channels. -/

section
variable {channels : Nat}

theorem deltaChannels_length (left c : Nat) (src dst : List Byte) :
    (deltaChannels channels left c src dst).length = dst.length := by
  induction left generalizing c src dst with
  | zero => rfl
  | succ left ih => rw [deltaChannels, ih, deltaChannel_length]

/-- The indices of different channels are different. -/
theorem channelIndex_ne {c c' j j' : Nat} (hc : c < channels) (hc' : c' < channels) (hne : c ≠ c') :
    c + j * channels ≠ c' + j' * channels := by
  intro h
  apply hne
  calc c = (c + j * channels) % channels := by rw [Nat.add_mul_mod_self_right, Nat.mod_eq_of_lt hc]
    _ = (c' + j' * channels) % channels := by rw [h]
    _ = c' := by rw [Nat.add_mul_mod_self_right, Nat.mod_eq_of_lt hc']

/-- The channels from `c` on leave the indices of an earlier channel as they are. -/
theorem deltaChannels_earlier {k left c : Nat} (hk : k < c) (hc : c + left = channels) (j : Nat) (src dst : List Byte) :
    (deltaChannels channels left c src dst)[k + j * channels]? = dst[k + j * channels]? := by
  induction left generalizing c src dst with
  | zero => rfl
  | succ left ih =>
    rw [deltaChannels, ih (by omega) (by omega)]
    exact deltaChannel_other _ _ _ _ _ fun j' => channelIndex_ne (by omega) (by omega) (by omega)

/-- The channels from `c` on, whose source begins where that of channel `c` does, write each its own running values. -/
theorem deltaChannels_value {left c k : Nat} (hck : c ≤ k) (hk : k < channels) (hc : c + left = channels) (data : List Byte)
    {dst : List Byte} (hlen : dst.length = data.length) {j : Nat} (hj : k + j * channels < data.length) :
    (deltaChannels channels left c (data.drop (deltaStart channels data.length c)) dst)[k + j * channels]? =
      some (deltaValue 0 (data.drop (deltaStart channels data.length k)) (j + 1)) := by
  have hchannels : 1 ≤ channels := by omega
  induction left generalizing c dst with
  | zero => omega
  | succ left ih =>
    rw [deltaChannels, deltaChannel_source hchannels _ _ (Nat.le_add_left ..), List.drop_drop, hlen, ← deltaStart_succ]
    rcases Nat.eq_or_lt_of_le hck with rfl | hlater
    · rw [deltaChannels_earlier (Nat.lt_succ_self c) (by omega)]
      exact deltaChannel_value hchannels _ _ (by omega) (by omega)
    · exact ih hlater (by omega) (by rw [deltaChannel_length, hlen])

end

theorem deltaFilter_length (channels : Nat) (data : List Byte) : (deltaFilter channels data).length = data.length := by
  rw [deltaFilter, deltaChannels_length, List.length_replicate]

/-- Settles O43: the channels run from the first on, whose source begins at 0. -/
theorem deltaIsNegatedPrefixSum : Obligations.DeltaIsNegatedPrefixSum := by
  intro channels data _ _
  refine ⟨deltaFilter_length channels data, fun c j hc hj => ?_⟩
  rw [deltaFilter, ← deltaValue_drop]
  exact deltaChannels_value (Nat.zero_le c) hc (Nat.zero_add channels) data List.length_replicate hj

end Sys2Proof.Machine
end

section
/-! PROOFS. The word rewritten in place (R16, 44_filters.md R272, R274): what reading and writing it does on a region cut before it. -/

namespace Sys2Proof.Machine

theorem readLe32_toNat (b0 b1 b2 b3 : Byte) :
    (readLe32 b0 b1 b2 b3).toNat = b0.toNat + 2 ^ 8 * b1.toNat + 2 ^ 16 * b2.toNat + 2 ^ 24 * b3.toNat := by
  have hfit : leValue [b0, b1, b2, b3] < 2 ^ 32 := leValue_lt [b0, b1, b2, b3]
  rw [readLe32, BitVec.toNat_ofNat, Nat.mod_eq_of_lt hfit]
  simp only [leValue]
  omega

/-- A word written back unchanged is the bytes it was read from (R16). -/
theorem writeLe32_readLe32 (b0 b1 b2 b3 : Byte) : writeLe32 (readLe32 b0 b1 b2 b3) = [b0, b1, b2, b3] := by
  have byte (start : Nat) (b : Byte) (h : (readLe32 b0 b1 b2 b3).toNat / 2 ^ start % 2 ^ 8 = b.toNat) :
      (readLe32 b0 b1 b2 b3).extractLsb' start 8 = b := by
    apply BitVec.eq_of_toNat_eq
    rw [BitVec.extractLsb'_toNat, Nat.shiftRight_eq_div_pow, h]
  rw [writeLe32, byte 0 b0, byte 8 b1, byte 16 b2, byte 24 b3] <;> rw [readLe32_toNat] <;> omega

@[simp] theorem writeLe32_length (v : Word32) : (writeLe32 v).length = 4 := rfl

section
variable {pre : List Byte} {i : Nat} {b0 b1 b2 b3 : Byte} {rest : List Byte}

/-- The word at the cut. -/
theorem readWordAt_append (hi : i = pre.length) :
    readWordAt (pre ++ b0 :: b1 :: b2 :: b3 :: rest) i = (readLe32 b0 b1 b2 b3).toNat := by
  subst hi
  rw [readLe32_toNat]
  simp [readWordAt, List.getD_eq_getElem?_getD]

/-- A word written at the cut takes the place of the four bytes there. -/
theorem writeWordAt_append (hi : i = pre.length) (v : Word32) :
    writeWordAt (pre ++ b0 :: b1 :: b2 :: b3 :: rest) i v.toNat = pre ++ writeLe32 v ++ rest := by
  subst hi
  have byte (start : Nat) : v.extractLsb' start 8 = BitVec.ofNat 8 (v.toNat / 2 ^ start) := by
    rw [← Nat.shiftRight_eq_div_pow]
    rfl
  simp [writeWordAt, writeLe32, byte]

/-- A word written back where it was read changes nothing. -/
theorem writeWordAt_same (hi : i = pre.length) :
    writeWordAt (pre ++ b0 :: b1 :: b2 :: b3 :: rest) i (readLe32 b0 b1 b2 b3).toNat = pre ++ b0 :: b1 :: b2 :: b3 :: rest := by
  rw [writeWordAt_append hi, writeLe32_readLe32, List.append_assoc]
  rfl

end

end Sys2Proof.Machine
end

section
/-! PROOFS. E8 and E8E9 (44_filters.md R272, R273): the one pass of the model is the loop of the rule. -/

namespace Sys2Proof.Machine

/-- The bytes that E8 and, with `e9`, E8E9 match (R272, R273). -/
abbrev e8Opcode (e9 : Bool) (op : Byte) : Prop := op = 0xE8 ∨ (e9 = true ∧ op = 0xE9)

section
variable {e9 : Bool} {fileOffset : Nat}

theorem e8Filter_length (operand : List Byte) (i : Nat) (data : List Byte) :
    (e8Filter e9 fileOffset operand i data).length = data.length := by
  induction data generalizing operand i with
  | nil => cases operand <;> rfl
  | cons op rest ih =>
    cases operand with
    | nil => rw [e8Filter, List.length_cons, ih, List.length_cons]
    | cons b operand => rw [e8Filter, List.length_cons, ih, List.length_cons]

/-! One turn of the model's pass. -/

/-- A rewritten operand takes the place of the region's bytes. -/
theorem e8Filter_operand (operand : List Byte) (i : Nat) {bytes : List Byte} (rest : List Byte) (h : bytes.length = operand.length) :
    e8Filter e9 fileOffset operand i (bytes ++ rest) = operand ++ e8Filter e9 fileOffset [] (i + operand.length) rest := by
  induction operand generalizing i bytes with
  | nil =>
    rw [List.length_eq_zero_iff.1 h]
    rfl
  | cons b operand ih =>
    obtain ⟨x, bytes, rfl⟩ := List.exists_cons_of_length_eq_add_one h
    rw [List.cons_append, e8Filter, ih _ (Nat.succ.inj h), List.length_cons, List.cons_append, Nat.add_assoc, Nat.add_comm 1]

/-- A matched opcode takes its operand with it. -/
theorem e8Filter_match {op : Byte} (hop : e8Opcode e9 op) (i : Nat) (b0 b1 b2 b3 : Byte) (rest : List Byte) :
    e8Filter e9 fileOffset [] i (op :: b0 :: b1 :: b2 :: b3 :: rest) =
      op :: writeLe32 (e8Operand fileOffset i (readLe32 b0 b1 b2 b3)) ++ e8Filter e9 fileOffset [] (i + 5) rest := by
  rw [e8Filter, e8Match, if_pos hop, Option.getD_some, List.cons_append]
  exact congrArg (op :: ·) (e8Filter_operand _ (i + 1) (bytes := [b0, b1, b2, b3]) rest rfl)

theorem e8Match_eq_none {i : Nat} {op : Byte} {rest : List Byte}
    (h : rest.length < 4 ∨ ¬e8Opcode e9 op) : e8Match e9 fileOffset i op rest = none := by
  unfold e8Match
  split
  · rcases h with hshort | hop
    · simp only [List.length_cons] at hshort
      omega
    · exact if_neg hop
  · rfl

/-- Any other byte, and a byte with fewer than four after it, is passed by itself. -/
theorem e8Filter_pass {i : Nat} {op : Byte} {rest : List Byte} (h : rest.length < 4 ∨ ¬e8Opcode e9 op) :
    e8Filter e9 fileOffset [] i (op :: rest) = op :: e8Filter e9 fileOffset [] (i + 1) rest := by
  rw [e8Filter, e8Match_eq_none h, Option.getD_none]

/-- The last four bytes are not examined. -/
theorem e8Filter_short {i : Nat} {data : List Byte} (h : data.length ≤ 4) : e8Filter e9 fileOffset [] i data = data := by
  induction data generalizing i with
  | nil => rfl
  | cons op rest ih =>
    rw [List.length_cons] at h
    rw [e8Filter_pass (.inl (by omega)), ih (by omega)]

/-! One turn of the rule's loop. -/

/-- The two rewritings of an address, as the rule computes them (R272). -/
theorem e8Operand_toNat (i : Nat) (addr : Word32) : (e8Operand fileOffset i addr).toNat =
    if addr.toNat < 2 ^ 24 then (addr.toNat + (2 ^ 32 - (i + 1 + fileOffset) % 2 ^ 24)) % 2 ^ 32
    else if addr.toNat ≥ 2 ^ 32 - (i + 1 + fileOffset) % 2 ^ 24 then (addr.toNat + 2 ^ 24) % 2 ^ 32
    else addr.toNat := by
  have hoff : (i + 1 + fileOffset) % 2 ^ 24 < 2 ^ 24 := Nat.mod_lt _ (by omega)
  have hoff' : (i + 1 + fileOffset) % 2 ^ 24 % 2 ^ 32 = (i + 1 + fileOffset) % 2 ^ 24 := Nat.mod_eq_of_lt (by omega)
  unfold e8Operand
  rw [show Config.e8FileSize = 2 ^ 24 from rfl]
  simp only
  split_ifs
  · rw [BitVec.toNat_sub, BitVec.toNat_ofNat, hoff', Nat.add_comm]
  · rw [BitVec.toNat_add, BitVec.toNat_ofNat, Nat.add_mod_mod]
  · rfl

theorem e8Loop_short (fuel : Nat) {i : Nat} {data : List Byte} (h : ¬i + 4 < data.length) :
    e8Loop e9 fileOffset fuel i data = data := by
  cases fuel with
  | zero => rfl
  | succ fuel => exact if_neg h

/-- At a matched opcode the loop writes the operand, changed or not, and advances by 5. -/
theorem e8Loop_match {op : Byte} (hop : e8Opcode e9 op) (fuel : Nat) (pre : List Byte) (b0 b1 b2 b3 : Byte)
    (rest : List Byte) :
    e8Loop e9 fileOffset (fuel + 1) pre.length (pre ++ op :: b0 :: b1 :: b2 :: b3 :: rest) =
      e8Loop e9 fileOffset fuel (pre.length + 5)
        (pre ++ op :: writeLe32 (e8Operand fileOffset pre.length (readLe32 b0 b1 b2 b3)) ++ rest) := by
  have hroom : pre.length + 4 < (pre ++ op :: b0 :: b1 :: b2 :: b3 :: rest).length := by simp
  have hget : (pre ++ op :: b0 :: b1 :: b2 :: b3 :: rest).getD pre.length 0 = op := by simp
  have hcut : pre ++ op :: b0 :: b1 :: b2 :: b3 :: rest = (pre ++ [op]) ++ b0 :: b1 :: b2 :: b3 :: rest := by simp
  have hindex : pre.length + 1 = (pre ++ [op]).length := by simp
  rw [e8Loop, if_pos hroom, hget, if_pos hop, hcut, readWordAt_append hindex]
  have hwrite : writeWordAt ((pre ++ [op]) ++ b0 :: b1 :: b2 :: b3 :: rest) (pre.length + 1)
      (e8Operand fileOffset pre.length (readLe32 b0 b1 b2 b3)).toNat =
        pre ++ op :: writeLe32 (e8Operand fileOffset pre.length (readLe32 b0 b1 b2 b3)) ++ rest := by
    rw [writeWordAt_append hindex, List.append_assoc pre, List.singleton_append]
  rw [← hwrite, e8Operand_toNat]
  refine congrArg (e8Loop e9 fileOffset fuel (pre.length + 5)) ?_
  split_ifs
  · rfl
  · rfl
  · exact (writeWordAt_same hindex).symm

theorem e8Loop_pass {op : Byte} (hop : ¬e8Opcode e9 op) (fuel : Nat) (pre rest : List Byte)
    (hroom : 4 ≤ rest.length) :
    e8Loop e9 fileOffset (fuel + 1) pre.length (pre ++ op :: rest) = e8Loop e9 fileOffset fuel (pre.length + 1) (pre ++ op :: rest) := by
  have hinside : pre.length + 4 < (pre ++ op :: rest).length := by
    rw [List.length_append, List.length_cons]
    omega
  have hget : (pre ++ op :: rest).getD pre.length 0 = op := by simp
  rw [e8Loop, if_pos hinside, hget, if_neg hop]

/-- The loop from the cut on leaves what is before it and passes over the rest as the model does. -/
theorem e8Loop_append (fuel : Nat) (pre rest : List Byte) (hfuel : rest.length ≤ fuel) :
    e8Loop e9 fileOffset fuel pre.length (pre ++ rest) = pre ++ e8Filter e9 fileOffset [] pre.length rest := by
  induction fuel generalizing pre rest with
  | zero =>
    rw [List.length_eq_zero_iff.1 (Nat.le_zero.1 hfuel)]
    rfl
  | succ fuel ih =>
    match rest, hfuel with
    | op :: b0 :: b1 :: b2 :: b3 :: rest, hfuel =>
      simp only [List.length_cons] at hfuel
      by_cases hop : e8Opcode e9 op
      · rw [e8Loop_match hop, e8Filter_match hop, ← List.append_assoc]
        simpa using ih (pre ++ op :: writeLe32 (e8Operand fileOffset pre.length (readLe32 b0 b1 b2 b3))) rest (by omega)
      · rw [e8Loop_pass hop _ _ _ (by simp), e8Filter_pass (.inr hop)]
        simpa using ih (pre ++ [op]) (b0 :: b1 :: b2 :: b3 :: rest) (by simp only [List.length_cons]; omega)
    | [], _ | [_], _ | [_, _], _ | [_, _, _], _ | [_, _, _, _], _ =>
      rw [e8Loop_short _ (by simp), e8Filter_short (by simp)]

end

/-- Settles O44: the cut before the whole region. -/
theorem e8TransformsAreTheirLoop : Obligations.E8TransformsAreTheirLoop := fun _ _ data =>
  ⟨e8Filter_length [] 0 data, (e8Loop_append data.length [] data (Nat.le_refl _)).symm⟩

end Sys2Proof.Machine
end

section
/-! PROOFS. ARM (44_filters.md R274) and the choice of the transform (R270, R275). -/

namespace Sys2Proof.Machine

/-! The rewritten word. -/

/-- The masks of R274 put the high byte of one word before the low 24 bits of another. -/
theorem highByte_or_low (x y : Word32) :
    (x &&& 0xFF000000) ||| (y &&& 0x00FFFFFF) = x.extractLsb' 24 8 ++ y.extractLsb' 0 24 := by
  have halves (w : Word32) : w = w.extractLsb' 24 8 ++ w.extractLsb' 0 24 :=
    BitVec.extractLsb'_eq_self.symm.trans
      (BitVec.extractLsb'_append_extractLsb'_eq_extractLsb' (start₂ := 24) (start₁ := 0) (len₁ := 24) (len₂ := 8) rfl).symm
  have high : (0xFF000000 : Word32) = BitVec.allOnes 8 ++ 0#24 := rfl
  have low : (0x00FFFFFF : Word32) = 0#8 ++ BitVec.allOnes 24 := rfl
  conv_lhs => rw [halves x, halves y, high, low, BitVec.and_append, BitVec.and_append, BitVec.or_append]
  simp only [BitVec.and_allOnes, BitVec.and_zero, BitVec.or_zero, BitVec.zero_or]

/-- The rewritten word, as the rule computes it (R274). -/
theorem armWord_toNat (fileOffset i : Nat) (instr : Word32) : (armWord fileOffset i instr).toNat =
    instr.toNat / 2 ^ 24 * 2 ^ 24 + (instr.toNat + (2 ^ 24 - (fileOffset + i) / 4 % 2 ^ 24)) % 2 ^ 24 := by
  have hoff : (fileOffset + i) >>> 2 = (fileOffset + i) / 4 := Nat.shiftRight_eq_div_pow ..
  have hlow (n : Nat) : n % 2 ^ 24 < 2 ^ 24 := Nat.mod_lt _ (by omega)
  have hmasks : armWord fileOffset i instr =
      instr.extractLsb' 24 8 ++ (instr - BitVec.ofNat 32 ((fileOffset + i) >>> 2)).extractLsb' 0 24 := highByte_or_low ..
  rw [hmasks, BitVec.toNat_append, BitVec.extractLsb'_toNat, BitVec.extractLsb'_toNat, hoff,
    ← Nat.shiftLeft_add_eq_or_of_lt (hlow _), BitVec.toNat_sub, BitVec.toNat_ofNat, Nat.shiftRight_eq_div_pow, Nat.shiftRight_zero,
    Nat.shiftLeft_eq]
  omega

/-! One group of four bytes. -/

section
variable {fileOffset : Nat}

theorem armFilter_short {i : Nat} {data : List Byte} (h : data.length < 4) : armFilter fileOffset i data = data := by
  match data, h with
  | [], _ | [_], _ | [_, _], _ | [_, _, _], _ => rfl

theorem armLoop_short (fuel : Nat) {i : Nat} {data : List Byte} (h : ¬i + 4 ≤ data.length) :
    armLoop fileOffset fuel i data = data := by
  cases fuel with
  | zero => rfl
  | succ fuel => exact if_neg h

/-- The bytes that take the place of a group (R274). -/
def armGroup (fileOffset i : Nat) (b0 b1 b2 b3 : Byte) : List Byte :=
  if b3 = 0xEB then writeLe32 (armWord fileOffset i (readLe32 b0 b1 b2 b3)) else [b0, b1, b2, b3]

@[simp] theorem armGroup_length (i : Nat) (b0 b1 b2 b3 : Byte) : (armGroup fileOffset i b0 b1 b2 b3).length = 4 := by
  unfold armGroup
  split <;> rfl

theorem armFilter_group (i : Nat) (b0 b1 b2 b3 : Byte) (rest : List Byte) :
    armFilter fileOffset i (b0 :: b1 :: b2 :: b3 :: rest) =
      armGroup fileOffset i b0 b1 b2 b3 ++ armFilter fileOffset (i + 4) rest := rfl

/-- The loop puts the group in its place and advances by 4. -/
theorem armLoop_group (fuel : Nat) (pre : List Byte) (b0 b1 b2 b3 : Byte) (rest : List Byte) :
    armLoop fileOffset (fuel + 1) pre.length (pre ++ b0 :: b1 :: b2 :: b3 :: rest) =
      armLoop fileOffset fuel (pre.length + 4) (pre ++ armGroup fileOffset pre.length b0 b1 b2 b3 ++ rest) := by
  have hroom : pre.length + 4 ≤ (pre ++ b0 :: b1 :: b2 :: b3 :: rest).length := by simp
  have hlast : (pre ++ b0 :: b1 :: b2 :: b3 :: rest).getD (pre.length + 3) 0 = b3 := by simp
  rw [armLoop, if_pos hroom, hlast, readWordAt_append rfl, armGroup]
  dsimp only
  rw [← armWord_toNat]
  refine congrArg (armLoop fileOffset fuel (pre.length + 4)) ?_
  split
  · exact writeWordAt_append rfl _
  · rw [List.append_assoc]
    rfl

/-- The loop from the cut on leaves what is before it and rewrites the rest as the model does. -/
theorem armLoop_append (fuel : Nat) (pre rest : List Byte) (hfuel : rest.length ≤ fuel) :
    armLoop fileOffset fuel pre.length (pre ++ rest) = pre ++ armFilter fileOffset pre.length rest := by
  induction fuel generalizing pre rest with
  | zero =>
    rw [List.length_eq_zero_iff.1 (Nat.le_zero.1 hfuel)]
    rfl
  | succ fuel ih =>
    match rest, hfuel with
    | b0 :: b1 :: b2 :: b3 :: rest, hfuel =>
      simp only [List.length_cons] at hfuel
      have hrest := ih (pre ++ armGroup fileOffset pre.length b0 b1 b2 b3) rest (by omega)
      rw [List.length_append, armGroup_length] at hrest
      rw [armLoop_group, hrest, armFilter_group, List.append_assoc]
    | [], _ | [_], _ | [_, _], _ | [_, _, _], _ =>
      rw [armLoop_short _ (by simp), armFilter_short (by simp)]

theorem armFilter_length (i : Nat) (data : List Byte) : (armFilter fileOffset i data).length = data.length := by
  induction i, data using armFilter.induct with
  | case1 i b0 b1 b2 b3 rest ih =>
    rw [armFilter_group, List.length_append, armGroup_length, ih]
    simp only [List.length_cons]
    omega
  | case2 i rest h =>
    rw [armFilter]
    exact h

end

/-! The choice of the transform. -/

theorem applyFilter_length (P : Config.Params) (f : FilterEntry) (fileOffset : Nat) (data : List Byte) :
    (applyFilter P f fileOffset data).length = data.length := by
  unfold applyFilter
  split_ifs
  · exact deltaFilter_length f.channels data
  · exact e8Filter_length [] 0 data
  · exact e8Filter_length [] 0 data
  · exact armFilter_length 0 data
  · exact List.length_replicate

/-- With the codes of R12 the four below 4 name a filter (R262). -/
theorem filterKnown_params (code : Nat) : Operands.filterKnown Config.params code = decide (code < 4) := by
  have hcodes : Operands.filterKnown Config.params code = (List.range 4).contains code := rfl
  rw [hcodes, List.contains_eq_mem, decide_eq_decide, List.mem_range]

/-- A type that names no filter zeroes the region (R275). -/
theorem applyFilter_unknown {P : Config.Params} {f : FilterEntry} (h : Operands.filterKnown P f.type.toNat = false) (fileOffset : Nat)
    (data : List Byte) : applyFilter P f fileOffset data = List.replicate data.length 0 := by
  simp only [Operands.filterKnown, List.contains_eq_mem, List.mem_cons, List.not_mem_nil, or_false, decide_eq_false_iff_not,
    not_or] at h
  obtain ⟨hdelta, he8, he8e9, harm⟩ := h
  rw [applyFilter, if_neg hdelta, if_neg he8, if_neg he8e9, if_neg harm]

/-- Settles O45: each code finds its branch, and ARM's is the loop cut before the whole region. -/
theorem filterDispatchAndArm : Obligations.FilterDispatchAndArm := by
  intro f fileOffset data
  refine ⟨applyFilter_length Config.params f fileOffset data, fun h => ?_, fun h => ?_, fun h => ?_, fun h => ?_, fun h => ?_⟩
  · rw [applyFilter, h]
    rfl
  · rw [applyFilter, h]
    rfl
  · rw [applyFilter, h]
    rfl
  · rw [applyFilter, h]
    exact (armLoop_append data.length [] data (Nat.le_refl _)).symm
  · exact applyFilter_unknown (by rw [filterKnown_params, decide_eq_false (Nat.not_lt.2 h)]) fileOffset data

end Sys2Proof.Machine
end

section
/-! PROOFS. The sink and its clamp (45_output_mainloop.md R301): what one write does. -/

namespace Sys2Proof.Machine

section
variable {s : State}

/-! One write. -/

/-- The clamp of R301, with its two tests apart. -/
theorem clamp_eq (s : State) (n : Nat) : s.clamp n =
    if s.sizeDefined = false then n
    else if s.writtenFileSize < s.unpackedSize.toNat then min n (s.unpackedSize.toNat - s.writtenFileSize)
    else 0 := by
  unfold State.clamp
  split_ifs <;> omega

theorem clamp_le (s : State) (n : Nat) : s.clamp n ≤ n := by
  unfold State.clamp
  split_ifs <;> omega

/-- The sink has room for the `k` bytes that the clamp lets through (log 6). -/
def State.sinkTakes (s : State) (k : Nat) : Prop := ∀ n, s.snk.ioAt = some n → k = 0 ∨ s.snk.bytes.length + k ≤ n

/-- Bytes for which the sink has room are pushed. -/
theorem sinkPush_takes {bs : List Byte} (h : s.sinkTakes bs.length) :
    sinkPush bs s = .ok { s with snk := { bytes := s.snk.bytes ++ bs, ioAt := s.snk.ioAt } } := by
  unfold sinkPush
  split
  · rfl
  · rename_i n hn
    have hroom : s.snk.bytes.length + bs.length ≤ n ∨ bs = [] := by
      rw [← List.length_eq_zero_iff]
      exact (h n hn).symm
    exact if_pos hroom

/-- A write whose clamped bytes the sink has room for goes through (R301). -/
theorem sinkWrite_takes {bs : List Byte} (h : s.sinkTakes (s.clamp bs.length)) : sinkWrite bs s = .ok { s with
    snk := { bytes := s.snk.bytes ++ bs.take (s.clamp bs.length), ioAt := s.snk.ioAt }
    writtenFileSize := s.writtenFileSize + bs.length } := by
  have hlen : (bs.take (s.clamp bs.length)).length = s.clamp bs.length := List.length_take_of_le (clamp_le s _)
  rw [sinkWrite, sinkPush_takes (by rwa [hlen])]
  rfl

/-- A write that goes beyond what the sink takes raises `Io`, the sink filled up to its count (R331, R334, log 6). -/
theorem sinkWrite_stops {bs : List Byte} {n : Nat} (hn : s.snk.ioAt = some n) (hpos : 0 < s.clamp bs.length)
    (hbeyond : n < s.snk.bytes.length + s.clamp bs.length) : sinkWrite bs s = .raised .io { s with
      snk := { bytes := s.snk.bytes ++ bs.take (n - s.snk.bytes.length), ioAt := some n } } := by
  have hlen : (bs.take (s.clamp bs.length)).length = s.clamp bs.length := List.length_take_of_le (clamp_le s _)
  have hfull : ¬(s.snk.bytes.length + (bs.take (s.clamp bs.length)).length ≤ n ∨ bs.take (s.clamp bs.length) = []) := by
    rw [← List.length_eq_zero_iff, hlen]
    omega
  have htake : (bs.take (s.clamp bs.length)).take (n - s.snk.bytes.length) = bs.take (n - s.snk.bytes.length) := by
    rw [List.take_take, Nat.min_eq_left (by omega)]
  simp only [sinkWrite, sinkPush, hn, if_neg hfull, htake, Flow.bind]

/-- A write goes through or is stopped (R301). -/
theorem sinkWrite_takes_or_stops (bs : List Byte) (s : State) :
    s.sinkTakes (s.clamp bs.length) ∨
      ∃ n, s.snk.ioAt = some n ∧ 0 < s.clamp bs.length ∧ n < s.snk.bytes.length + s.clamp bs.length := by
  by_cases h : s.sinkTakes (s.clamp bs.length)
  · exact .inl h
  · simp only [State.sinkTakes, not_forall, not_or, Nat.not_le] at h
    obtain ⟨n, hn, hpos, hbeyond⟩ := h
    exact .inr ⟨n, hn, Nat.pos_of_ne_zero hpos, hbeyond⟩

end

/-- Settles O46: the clamp by its tests, and a write that the sink has room for or has not. -/
theorem sinkWriteClamps : Obligations.SinkWriteClamps := by
  intro bs s
  simp only [← clamp_eq]
  refine ⟨fun hnone => ?_, fun n hn => ⟨fun hroom => ?_, fun hpos hbeyond => sinkWrite_stops hn hpos hbeyond⟩⟩
  · have htakes : s.sinkTakes (s.clamp bs.length) := fun n hn => by rw [hnone] at hn; cases hn
    rw [sinkWrite_takes htakes, hnone]
  · have htakes : s.sinkTakes (s.clamp bs.length) := fun m hm => by
      rw [hn] at hm
      cases hm
      exact hroom
    rw [sinkWrite_takes htakes, hn]

end Sys2Proof.Machine
end

section
/-! PROOFS. The flush as a chain of moves (45_output_mainloop.md R302): what each of them keeps the whole flush keeps. -/

namespace Sys2Proof.Machine

/-- `x` goes through in a state that meets `P`, or raises in one that meets `Q`, or faults. -/
def Flow.endsIn (P Q : State → Prop) (x : Flow State) : Prop :=
  match x with
  | .ok t => P t
  | .raised _ t => Q t
  | .fault _ => True

theorem Flow.endsIn_bind {P P' Q : State → Prop} {x : Flow State} {f : State → Flow State} (hx : x.endsIn P Q)
    (hf : ∀ u, x = .ok u → P u → (f u).endsIn P' Q) : (x.bind f).endsIn P' Q := by
  cases x with
  | ok u => exact hf u rfl hx
  | raised k u => exact hx
  | fault r => trivial

/-! What the moves of a flush do to the queue. -/

theorem emitPlain_ok_queue {e : Nat} {s u : State} (h : emitPlain e s = .ok u) : u.queue = s.queue := by
  rcases emitPlain_cases e s with ⟨k, w, he⟩ | ⟨k, he⟩ | ⟨r, he⟩ <;> rw [he] at h <;> cases h
  rfl

theorem collect_ok_queue {e : Nat} {s u : State} (h : collect e s = .ok u) : u.queue = s.queue := by
  rcases collect_cases e s with ⟨bs, -, he⟩ | ⟨r, he⟩ <;> rw [he] at h <;> cases h
  rfl

theorem runFilter_ok_queue {f : FilterEntry} {rest : List FilterEntry} {s u : State} (h : runFilter f rest s = .ok u) :
    u.queue = rest := by
  obtain ⟨b, k, w, he | he⟩ := runFilter_cases f rest s <;> rw [he] at h <;> cases h
  rfl

/-- What is kept by plain bytes that end before the first region, by bytes collected in that region, and by its filter, is kept by
the flush. -/
theorem flushQueue_endsIn {total : Nat} {P Q : State → Prop} {q : List FilterEntry} {s : State}
    (hemit : ∀ e u, P u → u.lzWritten ≤ e → (∀ f rest, u.queue = f :: rest → e ≤ f.startPos) → (emitPlain e u).endsIn P Q)
    (hcollect : ∀ f rest u, P u → u.queue = f :: rest → u.lzWritten < total →
      (collect (min total (f.startPos + f.size)) u).endsIn P Q)
    (hrun : ∀ f rest u, P u → u.queue = f :: rest → (runFilter f rest u).endsIn P Q)
    (hs : P s) (hq : s.queue = q) : (flushQueue total q s).endsIn P Q := by
  induction q generalizing s with
  | nil =>
    unfold flushQueue
    split
    · exact hemit total s hs (by omega) (by simp [hq])
    · exact hs
  | cons f rest ih =>
    unfold flushQueue
    split
    · exact hs
    · refine Flow.endsIn_bind (P := P) ?_ fun u hx hu => ?_
      · split
        · refine hemit _ s hs (by omega) fun g rest' hg => ?_
          cases hq.symm.trans hg
          exact Nat.min_le_right ..
        · exact hs
      · have huq : u.queue = f :: rest := by
          split at hx
          · exact (emitPlain_ok_queue hx).trans hq
          · cases hx
            exact hq
        split
        · exact hu
        · refine Flow.endsIn_bind (hcollect f rest u hu huq (by omega)) fun v hv hPv => ?_
          have hvq : v.queue = f :: rest := (collect_ok_queue hv).trans huq
          split
          · exact Flow.endsIn_bind (hrun f rest v hPv hvq) fun w hw hPw => ih hPw (runFilter_ok_queue hw)
          · exact hPv

end Sys2Proof.Machine
end

section
/-! PROOFS. The sink stays within the declared size and within what has been handed to it (R301): that every step keeps it. -/

namespace Sys2Proof.Machine

/-- The sink's invariant of a running file, whatever the phase. -/
structure sinkWithin (s : State) : Prop where
  declared : s.sizeDefined = true → s.snk.bytes.length ≤ s.unpackedSize.toNat
  counted : s.sizeDefined = true → s.snk.bytes.length ≤ s.writtenFileSize ∨ s.snk.ioAt = some s.snk.bytes.length

section
variable {s t u : State}

theorem sinkWithin_of_both (h : s.sizeDefined = true → s.snk.bytes.length ≤ s.unpackedSize.toNat ∧
    (s.snk.bytes.length ≤ s.writtenFileSize ∨ s.snk.ioAt = some s.snk.bytes.length)) : sinkWithin s :=
  ⟨fun hdef => (h hdef).1, fun hdef => (h hdef).2⟩

theorem sinkOk.within (h : sinkOk s) (hr : s.running) : sinkWithin s := ⟨h.declared, h.counted hr⟩

theorem sinkWithin.ok (h : sinkWithin s) : sinkOk s := ⟨h.declared, fun _ => h.counted⟩

/-- The reader's move keeps the invariant. -/
theorem sinkWithin.advance (h : sinkWithin s) (hu : advanced s u) : sinkWithin u := by
  rw [hu.frame]
  exact { h with }

/-- Between transactions only the declared size matters. -/
theorem sinkOk.idle (h : sinkOk s) (hsnk : t.snk = s.snk) (hdef : t.sizeDefined = s.sizeDefined)
    (hsize : t.unpackedSize = s.unpackedSize) (hp : t.phase = .idle) : sinkOk t where
  declared := by rw [hsnk, hdef, hsize]; exact h.declared
  counted hr := absurd hp hr

/-- A sink that has taken nothing. -/
theorem sinkWithin_of_empty (h : t.snk.bytes = []) : sinkWithin t := by
  refine ⟨fun _ => ?_, fun _ => .inl ?_⟩ <;> rw [h] <;> exact Nat.zero_le _

/-! The flush. -/

/-- The clamp lets through no more than is left of the declared size, and a sink that has stopped takes nothing more (R301, log 6). -/
theorem sinkWithin.sinkWrite (h : sinkWithin s) (bs : List Byte) : (Machine.sinkWrite bs s).endsIn sinkWithin sinkWithin := by
  have hclamp (hdef : s.sizeDefined = true) : s.clamp bs.length = min bs.length (s.unpackedSize.toNat - s.writtenFileSize) :=
    if_neg (by simp [hdef])
  rcases sinkWrite_takes_or_stops bs s with htakes | ⟨n, hn, hpos, hbeyond⟩
  · rw [sinkWrite_takes htakes]
    refine sinkWithin_of_both fun hdef => ?_
    have hdeclared := h.declared hdef
    have hk := hclamp hdef
    rw [List.length_append, List.length_take_of_le (clamp_le s _)]
    rcases h.counted hdef with hcount | hstopped
    · exact ⟨by simp only; omega, .inl (by simp only; omega)⟩
    · have hnone : s.clamp bs.length = 0 := by
        have := htakes _ hstopped
        omega
      rw [hnone]
      exact ⟨hdeclared, .inr hstopped⟩
  · rw [sinkWrite_stops hn hpos hbeyond]
    refine sinkWithin_of_both fun hdef => ?_
    have hdeclared := h.declared hdef
    have hk := hclamp hdef
    have hle := clamp_le s bs.length
    rw [List.length_append, List.length_take_of_le (by omega)]
    rcases h.counted hdef with hcount | hstopped
    · rcases Nat.le_total s.snk.bytes.length n with hbelow | habove
      · exact ⟨by simp only; omega, .inr (by rw [Nat.add_sub_of_le hbelow])⟩
      · exact ⟨by simp only; omega, .inl (by simp only; omega)⟩
    · cases hn.symm.trans hstopped
      rw [Nat.sub_self]
      exact ⟨hdeclared, .inr rfl⟩

theorem sinkWithin.flush (h : sinkWithin s) : (Machine.flush s).endsIn sinkWithin sinkWithin := by
  refine flushQueue_endsIn (fun e u hu _ _ => ?_) (fun f rest u hu _ _ => ?_) (fun f rest u hu _ => ?_) h rfl
  · unfold emitPlain
    cases hw : winBytes u e with
    | ok bs => exact Flow.endsIn_bind (hu.sinkWrite bs) fun v _ hv => { hv with }
    | raised k v => exact absurd hw windowRange_raised
    | fault r => trivial
  · rcases collect_cases (min s.total (f.startPos + f.size)) u with ⟨bs, -, hc⟩ | ⟨r, hc⟩ <;> rw [hc]
    · exact { hu with }
    · trivial
  · unfold runFilter
    refine sinkWithin.sinkWrite ?_ _
    exact { hu with }

theorem sinkWithin.flush_ok (h : sinkWithin s) (ht : Machine.flush s = .ok t) : sinkWithin t := by
  have := h.flush
  rwa [ht] at this

theorem sinkWithin.flush_raised (h : sinkWithin s) {k : ErrorKind} (ht : Machine.flush s = .raised k t) : sinkWithin t := by
  have := h.flush
  rwa [ht] at this

theorem sinkWithin.failedWith (h : sinkWithin s) {k : ErrorKind} (ht : failedWith k s t) : sinkWithin t := by
  obtain ⟨u, hu, -, rfl⟩ := ht
  have hu : sinkWithin u := hu.elim h.flush_ok fun ⟨_, hu⟩ => h.flush_raised hu
  exact { hu with }

theorem sinkWithin.sinkStopped (h : sinkWithin s) (ht : sinkStopped s t) : sinkWithin t := by
  obtain ⟨k, u, hu, hf⟩ := ht
  exact (h.flush_raised hu).failedWith hf

/-- A wrap leaves the sink alone (R303). -/
theorem sinkWithin.flushedAndWrapped (h : sinkWithin s) (ht : flushedAndWrapped s t) : sinkWithin t := by
  obtain ⟨u, hu, hw⟩ := ht
  have hu := h.flush_ok hu
  rw [(wrap_ok hw).1]
  exact { hu with }

/-! The actions. -/

theorem sinkWithin.lastFlush (h : sinkWithin s) {byEof : Bool} (ht : (lastFlush byEof s).outcome = .next t) : sinkWithin t := by
  rcases lastFlush_next ht with ⟨v, hv, rfl⟩ | hs
  · exact { h.flushedAndWrapped hv with }
  · exact h.sinkStopped hs

theorem sinkWithin.endWriteStep (h : sinkWithin s) (ht : (endWriteStep s).outcome = .next t) : sinkWithin t := by
  rcases endWriteStep_next ht with ⟨v, hv, rfl | rfl⟩ | hs
  · exact { h.flushedAndWrapped hv with }
  · exact { h.flushedAndWrapped hv with }
  · exact h.sinkStopped hs

theorem sinkWithin.endBlock (h : sinkWithin s) (ht : (endBlock s).outcome = .next t) : sinkWithin t := by
  have hu := h.advance (advanced_alignToByte s)
  rcases endBlock_next ht with hf | hl | rfl
  · exact h.failedWith hf
  · exact hu.lastFlush hl
  · exact { hu with }

theorem sinkWithin.levelsDone (h : sinkWithin s) (ht : (levelsDone s).outcome = .next t) : sinkWithin t := by
  rcases levelsDone_next ht with hf | ⟨H, -, rfl⟩
  · exact h.failedWith hf
  · exact { h with }

theorem sinkWithin.tablesDone (h : sinkWithin s) (ht : (tablesDone s).outcome = .next t) : sinkWithin t := by
  rcases tablesDone_next ht with hf | hf | ⟨main, dist, align, len, H, b, -, -, rfl⟩
  · exact h.failedWith hf
  · have hbuilds : sinkWithin { s with huff := Config.decodersAfterFailedBuild s.freeCount, freeCount := s.freeCount + 1 } :=
      { h with }
    exact hbuilds.failedWith hf
  · exact { h with }

theorem sinkWithin.readHeader (h : sinkWithin s) {flags cx : Byte} {b7m1 : BitVec 3} {last tables : Bool} {size : List Byte}
    (ht : readHeader flags b7m1 last tables cx size s = .next t) : sinkWithin t := by
  have hc : sinkWithin (commitHeader flags b7m1 last (leValue size) s) := { h with }
  rcases readHeader_next ht with hf | ⟨u, rfl, hf | rfl | rfl⟩
  · exact h.failedWith hf
  · exact hc.failedWith hf
  · exact { hc with }
  · exact { hc with }

theorem sinkWithin.repeatLength (h : sinkWithin s) {sym e : Nat} (ht : repeatLength sym e s = .next t) : sinkWithin t := by
  rcases repeatLength_next ht with hf | ⟨c, v, rfl⟩
  · exact h.failedWith hf
  · exact { h with }

theorem sinkWithin.putByte (h : sinkWithin s) {b : Byte} (ht : putByte b s = .ok t) : sinkWithin t := by
  rw [(putByte_ok.1 ht).2]
  exact { h with }

theorem sinkWithin.copyBytes (h : sinkWithin s) {dist n : Nat} (ht : copyBytes dist n s = .ok t) : sinkWithin t := by
  rw [(copyBytes_ok ht).1]
  exact { h with }

theorem sinkWithin.copyMatch (h : sinkWithin s) {dist len : Nat} (ht : (copyMatch dist len s).outcome = .next t) : sinkWithin t := by
  rcases copyMatch_next ht with hf | hc
  · exact h.failedWith hf
  · exact h.copyBytes hc

theorem sinkWithin.execLastlen (h : sinkWithin s) (ht : execLastlen s = .next t) : sinkWithin t := by
  rcases execLastlen_next ht with rfl | hf | hc
  · exact h
  · exact h.failedWith hf
  · exact h.copyBytes hc

theorem sinkWithin.beginDescriptor (h : sinkWithin s) (ht : (beginDescriptor s).outcome = .next t) : sinkWithin t := by
  rcases beginDescriptor_next ht with hs | ⟨u, rfl, ⟨rfl, -⟩ | ⟨v, hv, ⟨rfl, -⟩ | rfl⟩⟩
  · exact h.sinkStopped hs
  · exact { h with }
  · exact { h.flush_ok hv with }
  · exact { h.flush_ok hv with }

theorem sinkWithin.storeVU (h : sinkWithin s) (bs : List Byte) : sinkWithin (storeVU bs s) := by
  obtain ⟨p, d, z, he, -⟩ := storeVU_cases bs s
  rw [he]
  exact { h with }

theorem sinkWithin.registerFilter (h : sinkWithin s) (row channels : Nat) : sinkWithin (registerFilter row channels s) := by
  rw [Machine.registerFilter]
  rcases enqueueFilter_cases (Operands.rowCode s.params row) channels s with ⟨b, he⟩ | ⟨f, he, -⟩ <;> rw [he] <;>
    exact { h with }

/-- A `decode` call gives the file a sink that has taken nothing (R291, R42). -/
theorem sinkWithin_execProps {r0 : BitVec 3} {pow frac : BitVec 5} {r1 v7 solid : Bool}
    (ht : execProps r0 pow frac r1 v7 solid s = .next t) : sinkWithin t := by
  obtain ⟨u, rfl, rfl | ⟨-, rfl⟩ | ⟨ok, rfl⟩⟩ := execProps_next ht
  · exact sinkWithin_of_empty rfl
  · refine sinkWithin_of_empty ?_
    rcases setupFile_cases true (latchArgs (Operands.propsWord r0 pow frac r1 v7 solid) s) with he | he <;> rw [he] <;> rfl
  · refine sinkWithin_of_empty ?_
    rcases setupFile_cases ok (freshWindow (Operands.windowSizeOf pow.toNat frac.toNat)
      (latchArgs (Operands.propsWord r0 pow frac r1 v7 solid) s)) with he | he <;> rw [he] <;> rfl

end

/-- Settles O57: a running file's sink is within both bounds in every phase (`sinkWithin`), only a flush moves it, by clamped writes
(`sinkWithin.sinkWrite`), and a call begins with an empty one. -/
theorem stepKeepsSinkOk : Obligations.StepKeepsSinkOk := by
  intro s t hs h
  have kept {u : State} {p : Phase} (hu : advanced s u) (hp : s.phase = p) (hn : p ≠ .idle) : sinkWithin u :=
    (hs.within (by rw [State.running, hp]; exact hn)).advance hu
  cases step_cases h with
  | waits _ result => rwa [result]
  | resets _ idle result => exact hs.idle (by rw [result]; rfl) (by rw [result]; rfl) (by rw [result]; rfl) (by rw [result]; exact idle)
  | called _ _ _ _ _ _ _ _ _ result => exact (sinkWithin_execProps result).ok
  | fails u _ running reader result => exact (((hs.within running).advance reader).failedWith result).ok
  | writeStepEnds hp result => exact ((kept (advanced_refl s) hp nofun).endWriteStep result).ok
  | inputEnds u hp _ reader result => exact ((kept reader hp nofun).lastFlush result).ok
  | blockEnds u hp _ reader result => exact ((kept reader hp nofun).endBlock result).ok
  | levelsEnd hp _ result => exact ((kept (advanced_refl s) hp nofun).levelsDone result).ok
  | tablesEnd hp _ result => exact ((kept (advanced_refl s) hp nofun).tablesDone result).ok
  | header u _ _ _ _ _ _ hp reader result => exact ((kept reader hp nofun).readHeader result).ok
  | levels u c n hp reader result =>
    have hu : sinkWithin u := hp.elim (kept reader · nofun) (kept reader · nofun)
    rw [result]
    exact sinkWithin.ok { hu with }
  | escape u hp reader result =>
    rw [result]
    exact sinkWithin.ok { kept reader hp nofun with }
  | lengths u c v hp reader result =>
    rw [result]
    exact sinkWithin.ok { kept reader hp nofun with }
  | repeats u _ _ hp reader result => exact ((kept reader hp nofun).repeatLength result).ok
  | literal u b hp _ reader result => exact ((kept reader hp nofun).putByte (putByte_next result)).ok
  | descriptor u hp _ reader result => exact ((kept reader hp nofun).beginDescriptor result).ok
  | lastMatch u hp _ reader result => exact ((kept reader hp nofun).execLastlen result).ok
  | usesRep u k hp _ reader result =>
    rw [result]
    exact sinkWithin.ok { kept reader hp nofun with }
  | matchSlot u _ _ hp _ reader _ result =>
    rw [result]
    exact sinkWithin.ok { kept reader hp nofun with }
  | lenSlot u _ _ hp reader _ result =>
    refine (sinkWithin.copyMatch ?_ result).ok
    exact { kept reader hp nofun with }
  | distSlot u _ _ hp reader _ result =>
    refine (sinkWithin.copyMatch ?_ result).ok
    exact { kept reader hp nofun with }
  | integer u bs hp reader result =>
    have hu : sinkWithin u := hp.elim (kept reader · nofun) (kept reader · nofun)
    rw [result]
    exact (hu.storeVU bs).ok
  | filterType u row channels hp reader _ result =>
    rw [result]
    exact ((kept reader hp nofun).registerFilter row channels).ok

end Sys2Proof.Machine
end

section
/-! PROOFS. The turns of `Flush` (45_output_mainloop.md R302), and where a whole flush leaves the count of bytes. -/

namespace Sys2Proof.Machine

section
variable {s : State} {total : Nat} {f : FilterEntry} {rest : List FilterEntry}

theorem Flow.bind_congr {α β : Type} {x : Flow α} {g h : α → Flow β} (he : ∀ a, x = .ok a → g a = h a) :
    x.bind g = x.bind h := by
  cases x with
  | ok a => exact he a rfl
  | raised k u => rfl
  | fault r => rfl

theorem Flow.bind_assoc {α β γ : Type} (x : Flow α) (g : α → Flow β) (h : β → Flow γ) :
    (x.bind g).bind h = x.bind fun a => (g a).bind h := by
  cases x <;> rfl

theorem Flow.ok_bind {α β : Type} (a : α) (g : α → Flow β) : (Flow.ok a).bind g = g a := rfl

/-! The branches of the loop. -/

/-- With everything written there is nothing to do. -/
theorem flushQueue_reached (q : List FilterEntry) (h : total ≤ s.lzWritten) : flushQueue total q s = .ok s := by
  cases q with
  | nil => exact if_neg (Nat.not_lt.2 h)
  | cons f rest => exact if_pos h

/-- Inside the first region its bytes are collected, and once it is complete its filter runs. -/
theorem flushQueue_inside (hlt : s.lzWritten < total) (hstart : f.startPos ≤ s.lzWritten) : flushQueue total (f :: rest) s =
    (collect (min total (f.startPos + f.size)) s).bind fun u =>
      if u.fb.length = f.size then (runFilter f rest u).bind (flushQueue total rest) else .ok u := by
  simp only [flushQueue, if_neg (Nat.not_le.2 hlt), if_neg (Nat.not_lt.2 hstart), Flow.bind]

/-- Before the first region the plain bytes go to the sink, and the loop goes on. -/
theorem flushQueue_before (hlt : s.lzWritten < total) (hstart : s.lzWritten < f.startPos) : flushQueue total (f :: rest) s =
    (emitPlain (min total f.startPos) s).bind (flushQueue total (f :: rest)) := by
  rw [flushQueue, if_neg (Nat.not_le.2 hlt), if_pos hstart]
  refine Flow.bind_congr fun u hu => ?_
  have hat : u.lzWritten = min total f.startPos := by
    rcases emitPlain_cases (min total f.startPos) s with ⟨k, w, he⟩ | ⟨k, he⟩ | ⟨r, he⟩ <;> rw [he] at hu <;> cases hu
    rfl
  split
  · rename_i hreached
    rw [flushQueue_reached _ hreached]
  · rename_i hleft
    rw [flushQueue_inside (by omega) (by omega)]

/-- The flush is the loop up to the next LZ coordinate, over the queue. -/
theorem flush_eq {q : List FilterEntry} (ht : s.total = total) (hq : s.queue = q) : flush s = flushQueue total q s := by
  rw [flush, ht, hq]

theorem flush_reached (h : s.total ≤ s.lzWritten) : flush s = .ok s := flushQueue_reached s.queue h

/-- A write moves neither the next LZ coordinate nor the queue. -/
theorem sinkWrite_ok_frame {bs : List Byte} {t : State} (h : sinkWrite bs s = .ok t) : t.total = s.total ∧ t.queue = s.queue := by
  rcases sinkWrite_cases bs s with ⟨k, hw, -⟩ | ⟨k, hw⟩ <;> rw [hw] at h <;> cases h
  exact ⟨rfl, rfl⟩

/-- The types that name no filter, by their codes (R262, R275). -/
theorem not_filterKnown_eq (P : Config.Params) (code : Nat) : (!Operands.filterKnown P code) =
    decide (code ≠ P.typeDelta ∧ code ≠ P.typeE8 ∧ code ≠ P.typeE8E9 ∧ code ≠ P.typeArm) := by
  rw [Operands.filterKnown, List.contains_eq_mem, ← decide_not, decide_eq_decide]
  simp only [List.mem_cons, List.not_mem_nil, or_false, not_or]

/-- A region that is not complete once its bytes up to `total` are collected ends beyond `total`. -/
theorem pendingOk.partial_reached (h : pendingOk s) (hq : s.queue = f :: rest)
    (hstart : f.startPos ≤ s.lzWritten) {bs : List Byte} (hbs : bs.length = min total (f.startPos + f.size) - s.lzWritten)
    (hpart : (s.fb ++ bs).length ≠ f.size) : total ≤ min total (f.startPos + f.size) := by
  obtain ⟨hlen, hless⟩ := h.head f rest hq
  rw [List.length_append] at hpart
  omega

end

/-- Settles O47: `flushQueue` turn by turn, each turn ending in a state of which only what a flush may write has changed. -/
theorem flushFollowsItsLoop : Obligations.FlushFollowsItsLoop := by
  intro s hs
  refine ⟨fun hq hlt => ?_, fun hall => ?_, fun f rest hq hlt => ⟨fun hstart => ?_, fun hstart => ?_⟩⟩
  · rw [flush_eq rfl hq, flushQueue, if_pos hlt]
    rfl
  · exact flush_reached hall.ge
  · rw [flush_eq rfl hq, flushQueue_before hlt hstart, emitPlain, Flow.bind_assoc]
    refine Flow.bind_congr fun bs _ => ?_
    rw [Flow.bind_assoc]
    refine Flow.bind_congr fun t ht => ?_
    obtain ⟨htotal, hqueue⟩ := sinkWrite_ok_frame ht
    exact (flush_eq (s := { t with lzWritten := min s.total f.startPos }) htotal (hqueue.trans hq)).symm
  · rw [flush_eq rfl hq, flushQueue_inside hlt hstart, collect, Flow.bind_assoc]
    refine Flow.bind_congr fun bs hbs => ?_
    have hlen : bs.length = min s.total (f.startPos + f.size) - s.lzWritten := (windowRange_ok.1 hbs).1
    rw [Flow.ok_bind]
    simp only
    split
    · rw [runFilter, not_filterKnown_eq]
      refine Flow.bind_congr fun t ht => ?_
      obtain ⟨htotal, hqueue⟩ := sinkWrite_ok_frame ht
      exact (flush_eq htotal hqueue).symm
    · rename_i hpart
      have hreached := hs.pending.partial_reached hq hstart hlen hpart
      exact (flush_reached (s := { s with fb := s.fb ++ bs, lzWritten := min s.total (f.startPos + f.size) }) hreached).symm

/-! The count of bytes. -/

section
variable {s : State}

/-- From `s` to `t` every byte moved is counted, by the sink or in the filter buffer, and the pending regions lie in order ahead; the
sink does not fail. -/
structure accounted (s t : State) : Prop where
  ordered : t.queue.Pairwise fun f g => f.startPos + f.size ≤ g.startPos
  ahead : ∀ f ∈ t.queue, t.lzWritten ≤ f.startPos + f.size
  onward : s.lzWritten ≤ t.lzWritten
  count : t.writtenFileSize + t.fb.length + s.lzWritten = s.writtenFileSize + s.fb.length + t.lzWritten
  sink : t.snk.ioAt = none

/-- A sink that does not fail takes every write. -/
theorem sinkWrite_unlimited (h : s.snk.ioAt = none) (bs : List Byte) : ∃ k : Sink, k.ioAt = none ∧
    sinkWrite bs s = .ok { s with snk := k, writtenFileSize := s.writtenFileSize + bs.length } := by
  have htakes : s.sinkTakes (s.clamp bs.length) := fun n hn => by rw [h] at hn; cases hn
  exact ⟨{ bytes := s.snk.bytes ++ bs.take (s.clamp bs.length), ioAt := s.snk.ioAt }, h, sinkWrite_takes htakes⟩

/-- Regions in order after the first lie ahead of all that the first one's end lies ahead of. -/
theorem ahead_of_ordered {q : List FilterEntry} (h : q.Pairwise fun f g => f.startPos + f.size ≤ g.startPos) {e : Nat}
    (he : ∀ f rest, q = f :: rest → e ≤ f.startPos + f.size) : ∀ f ∈ q, e ≤ f.startPos + f.size := by
  cases q with
  | nil => nofun
  | cons f rest =>
    have hfirst := he f rest rfl
    intro g hg
    rcases List.mem_cons.1 hg with rfl | hg
    · exact hfirst
    · have := (List.pairwise_cons.1 h).1 g hg
      omega

theorem accounted.emitPlain {t : State} (h : accounted s t) {e : Nat} (hle : t.lzWritten ≤ e)
    (hbefore : ∀ f rest, t.queue = f :: rest → e ≤ f.startPos) : (emitPlain e t).endsIn (accounted s) fun _ => False := by
  unfold Machine.emitPlain
  cases hw : winBytes t e with
  | ok bs =>
    obtain ⟨k, hk, hsink⟩ := sinkWrite_unlimited h.sink bs
    have hlen : bs.length = e - t.lzWritten := (windowRange_ok.1 hw).1
    have hcount := h.count
    have honward := h.onward
    simp only [Flow.bind, hsink]
    exact {
      ordered := h.ordered
      ahead := ahead_of_ordered h.ordered fun f rest hq => (hbefore f rest hq).trans (Nat.le_add_right ..)
      onward := by simp only; omega
      count := by simp only; omega
      sink := hk }
  | raised k u => exact absurd hw windowRange_raised
  | fault r => trivial

theorem accounted.collect {t : State} (h : accounted s t) {f : FilterEntry} {rest : List FilterEntry} (hq : t.queue = f :: rest)
    {total : Nat} (hlt : t.lzWritten < total) :
    (collect (min total (f.startPos + f.size)) t).endsIn (accounted s) fun _ => False := by
  have hahead := h.ahead f (by simp [hq])
  have hcount := h.count
  have honward := h.onward
  rcases collect_cases (min total (f.startPos + f.size)) t with ⟨bs, hbs, hc⟩ | ⟨r, hc⟩ <;> rw [hc]
  · exact {
      ordered := h.ordered
      ahead := ahead_of_ordered h.ordered fun g rest' hg => by
        cases hq.symm.trans hg
        exact Nat.min_le_right ..
      onward := by simp only; omega
      count := by simp only [List.length_append]; omega
      sink := h.sink }
  · trivial

theorem accounted.runFilter {t : State} (h : accounted s t) {f : FilterEntry} {rest : List FilterEntry} (hq : t.queue = f :: rest) :
    (runFilter f rest t).endsIn (accounted s) fun _ => False := by
  have hordered := h.ordered
  have hahead := h.ahead
  have hcount := h.count
  rw [hq] at hordered hahead
  unfold Machine.runFilter
  obtain ⟨k, hk, hsink⟩ := sinkWrite_unlimited (s := { t with
    queue := rest, fb := [], isUnsupportedFilter := t.isUnsupportedFilter || !Operands.filterKnown t.params f.type.toNat })
    h.sink (applyFilter t.params f (f.startPos - t.lzFileStart) t.fb)
  rw [hsink]
  exact {
    ordered := (List.pairwise_cons.1 hordered).2
    ahead := fun g hg => hahead g (List.mem_cons_of_mem _ hg)
    onward := h.onward
    count := by simp only [applyFilter_length, List.length_nil]; omega
    sink := hk }

/-- A flush into a sink that does not fail counts every byte it moves and raises nothing (R302, R90). -/
theorem pendingOk.flush_accounted (h : pendingOk s) (hsink : s.snk.ioAt = none) : (flush s).endsIn (accounted s) fun _ => False :=
  flushQueue_endsIn (fun _ _ hu hle hbefore => hu.emitPlain hle hbefore) (fun _ _ _ hu hq hlt => hu.collect hq hlt)
    (fun _ _ _ hu hq => hu.runFilter hq) ⟨h.ordered, h.regions, Nat.le_refl _, rfl, hsink⟩ rfl

end

/-- Settles O48: the flush finds its bytes (`flush_total`), reaches the cursor (`pendingOk.flush_ok`) and counts what it moves. -/
theorem flushReachesCursor : Obligations.FlushReachesCursor := by
  intro s hq hf hsink
  have haccounted := hq.pending.flush_accounted hsink
  obtain ⟨t, ht | ⟨k, ht⟩⟩ := flush_total hf <;> rw [ht] at haccounted
  · have hall : t.lzWritten = s.lzSize + s.windowPos := (hq.pending.flush_ok ht).2
    have hcount := haccounted.count
    have honward := haccounted.onward
    exact ⟨t, ht, flush_ok ht, hall, by omega⟩
  · exact haccounted.elim

end Sys2Proof.Machine
end

section
/-! PROOFS. The wrap (45_output_mainloop.md R303) and the result of a file (R305). -/

namespace Sys2Proof.Machine

section
variable {s : State}

/-- A wrap whose tail is there and fits the window moves it to the window's start. -/
theorem wrap_moves (hge : s.windowSize ≤ s.windowPos) (hfits : s.windowPos - s.windowSize ≤ s.windowSize)
    (hfilled : s.filled s.windowSize s.windowPos) : ∃ tail u, tail.length = s.windowPos - s.windowSize ∧
      (∀ a, a < tail.length → s.window.read (s.windowSize + a) = tail[a]?) ∧ windowStore 0 tail s = .ok u ∧
      wrap s = .ok { u with lzSize := s.lzSize + s.windowSize, windowPos := s.windowPos - s.windowSize } := by
  obtain ⟨tail, htail⟩ := windowRange_total (s := s) (i := s.windowSize) (n := s.windowPos - s.windowSize)
    (by rwa [Nat.add_sub_of_le hge])
  obtain ⟨hlen, hread⟩ := windowRange_ok.1 htail
  obtain ⟨u, hu⟩ := windowStore_total (i := 0) (bs := tail) (s := s) (by omega)
  obtain ⟨hframe, -⟩ := windowStore_ok hu
  refine ⟨tail, u, hlen, by rwa [hlen], hu, ?_⟩
  rw [wrap, if_neg (Nat.not_lt.2 hge), htail, Flow.ok_bind, hu, Flow.ok_bind, hframe]

/-- Where no filter was unsupported the next four lines of R305 say `CorruptedData`, and the last says `Ok`. -/
theorem fileResult_supported (P : Config.Params) (byEof : Bool) (h : s.isUnsupportedFilter = false) : s.fileResult P byEof =
    if 0 < s.fb.length ∨ (s.sizeDefined = true ∧ s.writtenFileSize < s.unpackedSize.toNat) ∨
      (byEof = true ∧ s.sizeDefined = false ∧ P.eofUndefinedOk = false) ∨ (s.minorError = true ∧ s.writtenFileSize = 0)
    then .error .corruptedData else .ok := by
  rw [State.fileResult, if_neg (by simp [h]), ite_or, ite_or, ite_or]
  rfl

end

/-- Settles O49: the tail is read as a whole and stored from index 0 on, which leaves every index behind it alone. -/
theorem wrapMovesTail : Obligations.WrapMovesTail := by
  intro s
  refine ⟨fun hlt => if_pos hlt, fun hge hfits hfilled => ?_⟩
  obtain ⟨tail, u, hlen, hread, hu, hwrap⟩ := wrap_moves hge hfits hfilled
  obtain ⟨hframe, hother, hstored, -⟩ := windowStore_ok hu
  refine ⟨_, hwrap, by rw [hframe], fun a ha => ?_, fun a ha => hother a (by omega)⟩
  have hat := hstored a (by omega)
  rw [Nat.zero_add] at hat
  rw [hread a (by omega)]
  exact hat

/-- Settles O51: the first line alone, then the four lines that say the same as one condition. -/
theorem fileResultOrder : Obligations.FileResultOrder := by
  intro P byEof s
  refine ⟨fun hflag => if_pos hflag, fun hflag => ?_⟩
  rw [fileResult_supported P byEof hflag]
  exact ⟨fun hcorrupt => if_pos hcorrupt, fun hfine => if_neg hfine⟩

end Sys2Proof.Machine
end

section
/-! PROOFS. PROPS (45_output_mainloop.md R290 to R292): the window size of the property bytes, the test of the solid chain, and the
state in which a file that keeps no dictionary starts. -/

namespace Sys2Proof

/-! The window size (R290). -/

theorem propsRejected_iff (pow frac : Nat) : Operands.propsRejected pow frac = true ↔ 14 < pow + (frac + 31) / 32 := by
  rw [Operands.propsRejected, decide_eq_true_iff, Nat.shiftRight_eq_div_pow]

theorem windowSizeOf_eq (pow frac : Nat) : Operands.windowSizeOf pow frac = max ((frac + 32) * 2 ^ (pow + 12)) (2 ^ 18) := by
  rw [Operands.windowSizeOf, Nat.shiftLeft_eq]
  rfl

/-- The fraction is at most the next power of two, which the rejection test counts (R290). -/
theorem windowSizeOf_le {pow frac : Nat} (hfrac : frac < 32) (h : pow + (frac + 31) / 32 ≤ 14) :
    Operands.windowSizeOf pow frac ≤ 2 ^ 31 := by
  have hfraction : frac + 32 ≤ 2 ^ (5 + (frac + 31) / 32) := by
    rcases Nat.eq_zero_or_pos frac with rfl | hpos
    · decide
    · have hone : (frac + 31) / 32 = 1 := by omega
      rw [hone]
      omega
  rw [windowSizeOf_eq]
  refine Nat.max_le.2 ⟨?_, by decide⟩
  calc (frac + 32) * 2 ^ (pow + 12)
      ≤ 2 ^ (5 + (frac + 31) / 32) * 2 ^ (pow + 12) := Nat.mul_le_mul_right _ hfraction
    _ = 2 ^ (5 + (frac + 31) / 32 + (pow + 12)) := (Nat.pow_add ..).symm
    _ ≤ 2 ^ 31 := Nat.pow_le_pow_right (by decide) (by omega)

/-- Settles O18: `propsRejected_iff`, the formula with its clamp, and `windowSizeOf_le`. -/
theorem windowSizeFormulaAndRange : Obligations.WindowSizeFormulaAndRange := by
  intro pow frac h
  refine ⟨Bool.eq_false_iff.2 fun hr => h ((propsRejected_iff ..).1 hr), windowSizeOf_eq .., Nat.le_max_right ..,
    windowSizeOf_le frac.isLt (Nat.not_lt.1 h)⟩

/-- The decoder that no symbol has a length in is empty (R45). -/
theorem Huff.emptyOf_empty (F n : Nat) : (Huff.emptyOf F n).empty = true := by
  simp [Huff.emptyOf, Huff.ofLens]

end Sys2Proof

namespace Sys2Proof.Machine

theorem HuffSet.reset_empty (P : Config.Params) : (HuffSet.reset P).main.empty ∧ (HuffSet.reset P).dist.empty ∧
    (HuffSet.reset P).len.empty ∧ (HuffSet.reset P).align.empty :=
  ⟨Huff.emptyOf_empty .., Huff.emptyOf_empty .., Huff.emptyOf_empty .., Huff.emptyOf_empty ..⟩

/-- The test of R292, with the absolute difference as an integer. -/
theorem solidContinues_iff (s : State) : s.solidContinues = true ↔
    s.chainValid = true ∧ ((s.lzSize + s.windowPos : Nat) - s.lzEnd : Int).natAbs ≤ 2 ^ 20 := by
  rw [State.solidContinues, Bool.and_eq_true, decide_eq_true_iff]
  refine and_congr_right fun _ => ?_
  simp only [State.total, Config.solidRecoverLimit]
  omega

section
variable {r0 : BitVec 3} {pow frac : BitVec 5} {r1 v7 solid : Bool} {s : State}

/-- Rejected properties end the `decode` with the arguments latched (R290). -/
theorem execProps_rejected (h : 14 < pow.toNat + (frac.toNat + 31) / 32) : execProps r0 pow frac r1 v7 solid s =
    .next (rejectProps (latchArgs (Operands.propsWord r0 pow frac r1 v7 solid) s)) :=
  if_pos ((propsRejected_iff ..).2 h)

/-- Accepted properties that continue no chain set the file up in a window of its own (R291, R292). -/
theorem execProps_fresh (h : ¬14 < pow.toNat + (frac.toNat + 31) / 32) (hfresh : ¬(solid = true ∧ s.solidContinues = true)) :
    execProps r0 pow frac r1 v7 solid s = .next (setupFile s.port.windowAvail
      (freshWindow (max ((frac.toNat + 32) * 2 ^ (pow.toNat + 12)) (2 ^ 18))
        (latchArgs (Operands.propsWord r0 pow frac r1 v7 solid) s))) := by
  have haccepted : ¬Operands.propsRejected pow.toNat frac.toNat = true := fun hr => h ((propsRejected_iff ..).1 hr)
  have hnew : ¬(solid && s.solidContinues) = true := by rwa [Bool.and_eq_true]
  simp only [execProps, if_neg haccepted, if_neg hnew, windowSizeOf_eq]

/-- With both allocations granted the file starts (R291, R334). -/
theorem setupFile_granted (h : s.port.filterAvail = true) : setupFile true s = startFile s :=
  if_pos (by rw [h]; rfl)

theorem execProps_starts (h : ¬14 < pow.toNat + (frac.toNat + 31) / 32) (hfresh : ¬(solid = true ∧ s.solidContinues = true))
    (hwindow : s.port.windowAvail = true) (hfilter : s.port.filterAvail = true) :
    execProps r0 pow frac r1 v7 solid s = .next (startFile
      (freshWindow (max ((frac.toNat + 32) * 2 ^ (pow.toNat + 12)) (2 ^ 18))
        (latchArgs (Operands.propsWord r0 pow frac r1 v7 solid) s))) := by
  rw [execProps_fresh h hfresh, hwindow]
  exact congrArg _ (setupFile_granted hfilter)

/-- What a file in a window of its own starts from (R291, R371). -/
theorem startFile_freshWindow (ws : Nat) (s : State) : startFile (freshWindow ws s) = { fullReset s with
    windowSize := ws, dictSizeForCheck := ws, window := [], limit := min ws (0 + Config.writeStep), phase := .symbols
    lzEnd := if s.sizeDefined then 0 + s.unpackedSize.toNat else 0 } := rfl

/-- An undefined size counts as 0 (log 13). -/
theorem latchedSize_toNat (size : Option (BitVec 64)) : (if size.isSome then (size.getD 0).toNat else 0) = (size.getD 0).toNat := by
  cases size <;> rfl

end

/-- Settles O17: the step is `rejectProps` on the latched arguments. -/
theorem propsRejectedEndsDecode : Obligations.PropsRejectedEndsDecode :=
  fun _ _ _ _ _ _ _ h => execProps_rejected h

/-- Settles O19: the file is set up in a new window, both allocations being granted, and starts with empty decoders. -/
theorem propsStartsFreshFile : Obligations.PropsStartsFreshFile := by
  intro r0 pow frac r1 v7 solid s haccepted hfresh hwindow hfilter
  rw [← solidContinues_iff] at hfresh
  refine ⟨HuffSet.reset s.params, HuffSet.reset_empty s.params, ?_⟩
  refine (execProps_starts haccepted hfresh hwindow hfilter).trans ?_
  rw [startFile_freshWindow, Nat.zero_add, Nat.zero_add, latchArgs_sizeDefined, latchArgs_unpackedSize, latchedSize_toNat]
  rfl

end Sys2Proof.Machine
end

section
/-! PROOFS. Waiting and failing (60_exceptions.md R334 to R363): the idle instance, an allocation that is refused, a source and a sink that
fail, and what taking their errors answers. -/

namespace Sys2Proof.Machine

section
variable {s u : State}

/-! A refused allocation. -/

/-- Without both allocations per-file setup ends the call (R334, log 7). -/
theorem setupFile_refused {windowOk : Bool} (h : windowOk = false ∨ s.port.filterAvail = false) :
    setupFile windowOk s = endDecode (.error .outOfMemory) s :=
  if_neg (by rwa [Bool.not_eq_true, Bool.and_eq_false_iff])

/-- Accepted properties that continue a chain of the same window size keep its dictionary (R291, R292). -/
theorem execProps_continues {r0 : BitVec 3} {pow frac : BitVec 5} {r1 v7 : Bool} (h : ¬14 < pow.toNat + (frac.toNat + 31) / 32)
    (hchain : s.solidContinues = true) (hsize : s.windowSize = max ((frac.toNat + 32) * 2 ^ (pow.toNat + 12)) (2 ^ 18)) :
    execProps r0 pow frac r1 v7 true s = .next (setupFile true (latchArgs (Operands.propsWord r0 pow frac r1 v7 true) s)) := by
  have haccepted : ¬Operands.propsRejected pow.toNat frac.toNat = true := fun hr => h ((propsRejected_iff ..).1 hr)
  have hcontinues : (true && s.solidContinues) = true := hchain
  have hsame : Operands.windowSizeOf pow.toNat frac.toNat = s.windowSize := (windowSizeOf_eq ..).trans hsize.symm
  simp only [execProps, if_neg haccepted, if_pos hcontinues, if_pos hsame]

/-! A source that fails. -/

/-- The source fails from byte `n` on or, where it has less than the look-ahead left, at its end (R142, log 5). -/
theorem sourceFails_of_ioAt {n : Nat} (hio : s.src.ioAt = some n) (h : n ≤ s.pc / 8 ∨ s.src.bytes.length < s.pc / 8 + 16) :
    s.sourceFails = true := by
  simp only [State.sourceFails, hio, decide_eq_true_iff]
  rwa [State.byteOff, Nat.shiftRight_eq_div_pow]

/-- Test 1 or test 2 of the symbol loop fires (R222). -/
abbrev State.writeStepReached (s : State) : Prop :=
  (s.sizeDefined = true ∧ s.lzEnd ≤ s.lzSize + s.windowPos) ∨ s.limit ≤ s.windowPos

/-- The places where `prepare` is what comes next (R142, log 27). -/
abbrev State.atPrepare (s : State) : Prop :=
  (s.phase = .symbols ∧ ¬s.writeStepReached) ∨ s.phase = .header ∨ (s.phase = .levelNib ∧ s.lv.length < 20) ∨
    s.phase = .levelNib2 ∨
    (s.phase = .levelSym ∧ s.tbl.length < s.params.mainSize + if s.props.getLsbD 1 then 140 else 124) ∨ s.phase = .vuDelta

theorem State.atPrepare.before_eq (h : s.atPrepare) : ∃ k, before s = prepared s k := by
  rcases h with ⟨hp, hloop⟩ | hp | ⟨hp, hmissing⟩ | hp | ⟨hp, hmissing⟩ | hp
  case inl =>
    have htests : ¬(s.sizeReached || s.limitReached) = true := by
      rwa [Bool.or_eq_true, sizeReached_iff, limitReached_iff]
    simp only [before, hp, beforeSymbol, if_neg htests]
    exact ⟨_, rfl⟩
  case inr.inr.inl =>
    have hlv : ¬Config.levelSize ≤ s.lv.length := Nat.not_le.2 hmissing
    simp only [before, hp, beforeNibble, if_neg hlv]
    exact ⟨_, rfl⟩
  case inr.inr.inr.inr.inl =>
    have htbl : ¬s.tableTotal ≤ s.tbl.length := by rwa [tableTotal_eq, Nat.not_le]
    simp only [before, hp, beforeLevelSymbol, if_neg htbl]
    exact ⟨_, rfl⟩
  all_goals
    simp only [before, hp]
    exact ⟨_, rfl⟩

/-- There, a source that fails makes the step the taking of `Io` (R142, R334). -/
theorem State.atPrepare.step_sourceFails (h : s.atPrepare) (hsrc : s.sourceFails = true) : step s = takeError .io s := by
  obtain ⟨k, hk⟩ := h.before_eq
  have hraised : prepare s = .raised .io s := prepare_raised.2 ⟨hsrc, rfl, rfl⟩
  exact step_act (by rw [hk, prepared, hraised]; rfl)

/-! A sink that stops the flush. -/

/-- Moving the reader leaves what the flush reads. -/
theorem State.flushable.advance (h : s.flushable) (hu : advanced s u) : u.flushable := by
  rw [hu.frame]
  exact ⟨h.lap, h.regions, h.bytes⟩

section
variable {k : ErrorKind}

/-- Where an operation begins with the flush, a flush that the sink stops stops the operation (R300, R301). -/
theorem flushAndWrap_stopped (h : flush s = .raised k u) : flushAndWrap s = .raised k u := Flow.bind_raised.2 (.inl h)

theorem endWriteStep_stopped (h : flush s = .raised k u) : endWriteStep s = .raised k u :=
  Flow.bind_raised.2 (.inl (flushAndWrap_stopped h))

theorem lastFlush_stopped {byEof : Bool} (h : flush s = .raised k u) : lastFlush byEof s = .raised k u :=
  Flow.bind_raised.2 (.inl (flushAndWrap_stopped h))

/-- The flush of a saturated queue (R267). -/
theorem beginDescriptor_stopped (hfull : 8192 ≤ s.queue.length) (h : flush s = .raised k u) : beginDescriptor s = .raised k u := by
  have hsaturated : Config.filterQueueMax ≤ s.queue.length := hfull
  simp only [beginDescriptor, if_pos hsaturated, h, Flow.bind]

/-- An operation stopped by its flush is the taking of `Io` in the state in which the flush stopped (R301, R334). -/
theorem stopped_outcome {x : Flow State} (hq : queueOk s) (hf : s.flushable) (hu : flush s = .raised k u) (hx : x = .raised k u) :
    k = .io ∧ ∃ t, x.outcome = .next t ∧ failedWith .io u t := by
  obtain ⟨rfl, hf'⟩ := flush_stopped hq hf hu
  rw [Flow.outcome_raised hx]
  exact ⟨rfl, hf'.takeError .io⟩

end

end

/-- Settles O3: with no call waiting, `beforeCall` answers the state it is given. -/
theorem idleKeepsState : Obligations.IdleKeepsState :=
  fun s hp hctrl => step_act (by simp only [before, hp, beforeCall, hctrl])

/-- Settles O21: the file is set up in a new window or in that of its chain, and an allocation is refused to it. -/
theorem refusedAllocationIsOutOfMemory : Obligations.RefusedAllocationIsOutOfMemory := by
  intro r0 pow frac r1 v7 solid s haccepted keep h
  rcases h with ⟨hfresh, hrefused⟩ | ⟨⟨rfl, hchain⟩, hsize, hrefused⟩
  · have hnew : ¬(solid = true ∧ s.solidContinues = true) := by rwa [solidContinues_iff]
    exact ⟨_, (execProps_fresh haccepted hnew).trans (congrArg _ (setupFile_refused hrefused)), rfl, rfl, rfl, rfl⟩
  · have hcontinues : s.solidContinues = true := (solidContinues_iff s).2 hchain
    exact ⟨_, (execProps_continues haccepted hcontinues hsize).trans (congrArg _ (setupFile_refused (.inr hrefused))),
      rfl, rfl, rfl, rfl⟩

/-- Settles O50: a failing source makes the step `takeError` itself, and a stopped flush is how its operation ends (`stopped_outcome`). -/
theorem takingAnErrorFlushesAndReports : Obligations.TakingAnErrorFlushesAndReports := by
  intro s hflush s1 reached eof
  have hread : advanced s s1 := advanced_preparedState s
  have heof : s.preparedState.inputEofError = true ↔ eof := inputEofError_iff s.preparedState
  have reads (hp : s.phase = .symbols) (hloop : ¬reached) (hsrc : s.sourceFails = false) : readsInput s :=
    ⟨hp, (not_or.1 hloop).1, Nat.not_le.1 (not_or.1 hloop).2, hsrc⟩
  refine ⟨hflush.takeError, fun n hio hfails hplace => ?_, fun k u hq hp hstop => ?_, fun k u hq hfull hu => ?_⟩
  · rw [State.atPrepare.step_sourceFails hplace (sourceFails_of_ioAt hio hfails)]
    exact hflush.takeError .io
  · rcases hstop with ⟨htests, hu⟩ | ⟨hloop, hsrc, hpast, hu⟩ | ⟨hloop, hsrc, hinput, hend, hlast, hu⟩
    · rw [step_endWriteStep hp htests]
      exact stopped_outcome hq hflush hu (endWriteStep_stopped hu)
    · rw [(reads hp hloop hsrc).step_eof (heof.2 hpast)]
      exact stopped_outcome (hq.advance hread) (hflush.advance hread) hu (lastFlush_stopped hu)
    · have halign : advanced s (alignToByte s1) := advanced_trans hread (advanced_alignToByte s1)
      have hblock : endBlock s1 = lastFlush false (alignToByte s1) := (endBlock_exact (s := s1) hend).trans (if_pos hlast)
      rw [(reads hp hloop hsrc).step_blockEnd (mt heof.1 hinput) hend.ge]
      exact stopped_outcome (hq.advance halign) (hflush.advance halign) hu (hblock.trans (lastFlush_stopped hu))
  · exact stopped_outcome hq hflush hu (beginDescriptor_stopped hfull hu)

end Sys2Proof.Machine
end

section
/-! PROOFS. Reset and the kept chain (70_reset_and_hazards.md R370 to R374, with R290 to R293): the state at power-on, the `reset` call,
and PROPS where it keeps the dictionary of the file before. -/

namespace Sys2Proof.Machine

/-! Power-on and the `reset` call. -/

/-- Power-on is the state a full reset leaves, with no valid chain and no window: another reset changes nothing of it (R370). -/
theorem resetCall_powerOn (P : Config.Params) : resetCall (State.powerOn P) = State.powerOn P := rfl

/-- What a full reset leaves in the repetition registers (R21, R371). -/
theorem RepDist.reset_eq : RepDist.reset = ⟨0xFFFFFFFF, 0xFFFFFFFF, 0xFFFFFFFF, 0xFFFFFFFF⟩ := rfl

/-- Between transactions, a `reset` call at the head of CTRL is what the step runs (R372). -/
theorem step_resetCall {s : State} {rest : List Command} (hp : s.phase = .idle) (hctrl : s.ctrl = .reset :: rest) :
    step s = .next (resetCall { s with ctrl := rest }) :=
  step_act (by simp only [before, hp, beforeCall, hctrl])

/-! PROPS on a chain that goes on. -/

section
variable {r0 : BitVec 3} {pow frac : BitVec 5} {r1 v7 : Bool} {s : State}

/-- Accepted properties that continue a chain with another window size are refused (R293, log 11). -/
theorem execProps_windowSizeChange (h : ¬14 < pow.toNat + (frac.toNat + 31) / 32) (hchain : s.solidContinues = true)
    (hsize : s.windowSize ≠ max ((frac.toNat + 32) * 2 ^ (pow.toNat + 12)) (2 ^ 18)) :
    execProps r0 pow frac r1 v7 true s = .refused .windowSizeChange := by
  have haccepted : ¬Operands.propsRejected pow.toNat frac.toNat = true := fun hr => h ((propsRejected_iff ..).1 hr)
  have hcontinues : (true && s.solidContinues) = true := hchain
  have hother : Operands.windowSizeOf pow.toNat frac.toNat ≠ s.windowSize := fun he => hsize (he.symm.trans (windowSizeOf_eq ..))
  simp only [execProps, if_neg haccepted, if_pos hcontinues, if_neg hother]

/-- An undefined size adds nothing to the file's start (R24, log 13). -/
theorem add_latchedSize (start : Nat) (size : Option (BitVec 64)) :
    (if size.isSome then start + (size.getD 0).toNat else start) = start + (size.getD 0).toNat := by
  cases size <;> rfl

/-- The file ends its declared size behind the next LZ coordinate of the chain (R291, R24). -/
theorem startFile_latchArgs_lzEnd (w : BitVec 16) (s : State) :
    (startFile (latchArgs w s)).lzEnd = s.total + (s.port.unpackedSize.getD 0).toNat :=
  add_latchedSize s.total s.port.unpackedSize

/-- What a file that continues a chain starts from: dictionary, cursor, registers and decoders stay, what is per file is cleared
(R291, R374). -/
theorem startFile_latchArgs (w : BitVec 16) (s : State) : startFile (latchArgs w s) = { latchArgs w s with
    lzWritten := s.total, lzFileStart := s.total
    lzEnd := s.total + (s.port.unpackedSize.getD 0).toNat
    queue := [], filterEnd := 0, fb := []
    pc := 0, blockEnd := 0, blockEndBits7 := 0, isLastBlock := false
    minorError := false, isUnsupportedFilter := false, wasFinished := false, writtenFileSize := 0
    dictSizeForCheck := s.windowSize
    limit := min s.windowSize (s.windowPos + Config.writeStep), phase := .symbols } := by
  rw [← startFile_latchArgs_lzEnd w s]
  rfl

/-- With the filter buffer granted the file that continues the chain starts (R291, R292, R334). -/
theorem execProps_startsSolid (h : ¬14 < pow.toNat + (frac.toNat + 31) / 32) (hchain : s.solidContinues = true)
    (hsize : s.windowSize = max ((frac.toNat + 32) * 2 ^ (pow.toNat + 12)) (2 ^ 18)) (hfilter : s.port.filterAvail = true) :
    execProps r0 pow frac r1 v7 true s = .next (startFile (latchArgs (Operands.propsWord r0 pow frac r1 v7 true) s)) :=
  (execProps_continues h hchain hsize).trans (congrArg _ (setupFile_granted hfilter))

end

/-! The invariants at power-on of a machine with parameters it can have. -/

section
variable {P : Config.Params}

theorem queueOk_powerOn : queueOk (State.powerOn P) := queueOk_of_empty rfl rfl (Nat.le_refl _)

theorem cursorOk_powerOn (hw : P.wf = true) : cursorOk (State.powerOn P) := by
  have hr : registersOk (State.powerOn P) := registersOk_of_reset hw rfl rfl rfl rfl
  exact hr.unchained rfl rfl

theorem decodersOk_powerOn (hw : P.wf = true) : decodersOk (State.powerOn P) := decodersOk_of_unchained hw rfl rfl

theorem sinkOk_powerOn : sinkOk (State.powerOn P) := (sinkWithin_of_empty rfl).ok

end

/-- Settles O20: `execProps_windowSizeChange` for another window size, else the file starts in the chain's window (`startFile_latchArgs`). -/
theorem propsContinuesSolidChain : Obligations.PropsContinuesSolidChain := by
  intro r0 pow frac r1 v7 s haccepted hvalid hrecover
  have hchain : s.solidContinues = true := (solidContinues_iff s).2 ⟨hvalid, hrecover⟩
  refine ⟨execProps_windowSizeChange haccepted hchain, fun hsize hfilter => ?_⟩
  refine (execProps_startsSolid haccepted hchain hsize hfilter).trans ?_
  rw [startFile_latchArgs]
  rfl

/-- Settles O1: power-on is what the `reset` call leaves (`resetCall_powerOn`), so its registers hold that call's values. -/
theorem powerOnStateIsFullReset : Obligations.PowerOnStateIsFullReset := by
  have hreset : State.reset = resetCall State.reset := (resetCall_powerOn Config.params).symm
  unfold Obligations.PowerOnStateIsFullReset
  rw [hreset]
  simp [State.fbFill, RepDist.reset_eq, HuffSet.reset_empty]

/-- Settles O2: the step is `resetCall`, whose decoders are the empty ones. -/
theorem resetCallMakesFullReset : Obligations.ResetCallMakesFullReset :=
  fun s _ hp hctrl => ⟨HuffSet.reset s.params, HuffSet.reset_empty s.params, step_resetCall hp hctrl⟩

/-- Settles O52: at power-on nothing is listed, queued, decoded or taken, and no chain is valid. -/
theorem invariantsHoldAtReset : Obligations.InvariantsHoldAtReset := by
  have hw : Config.params.wf = true := by decide
  exact ⟨Memory.wf_reset, queueOk_powerOn, cursorOk_powerOn hw, decodersOk_powerOn hw, sinkOk_powerOn⟩

end Sys2Proof.Machine
end
